-- ==== Sys2Proof/Word.lean ====
section
/-! DEFINITION. The two word types of the hardware: bytes and 16-bit words (00_scope.md R12, R11: DATA_WIDTH is 8,
ADDR_WIDTH is 16). Bit 0 is the least-significant bit of every value. -/

namespace Sys2Proof

/-- A byte: 8 bits (R12). A, X, Y, SP, opcodes and memory cells are bytes. -/
abbrev Byte := BitVec 8

/-- A word: 16 bits (R12). PC and every address on the bus are words. -/
abbrev Word := BitVec 16

end Sys2Proof
end

