-- ==== Sys2Proof/Config.lean ====
section
/-! DEFINITION. What an implementation fixes, and the values the spec leaves open (00_scope.md R11;
93_implementation_defined.md, part 1). A value the spec leaves open is an uninterpreted constant: nothing in Lean can
evaluate it, so a theorem about it holds whatever it is. The parameters with finitely many named choices are plain types;
a state holds the choice (Machine/State.lean, `Params`). -/

namespace Sys2Proof.Config

/-- `IRQ_POLL_RULE` (R11, R320, R322): when the IRQ pin is polled. -/
inductive IrqPollRule
  /-- The poll points of R321, the default of R11. -/
  | hardware
  /-- One poll at the end of every instruction (R322). -/
  | boundary
  deriving DecidableEq, Repr

/-- `CLOCK_EDGE` (R11, R263, R326): the change of PHI0 that is one step. -/
inductive ClockEdge
  | rising
  | falling
  deriving DecidableEq, Repr

/-- `ANE_MAGIC` (R612; U12): an 8-bit constant that differs between chips. -/
opaque aneMagic : Byte

/-- `LXA_MAGIC` (R613; U13): an 8-bit constant that differs between chips. -/
opaque lxaMagic : Byte

/-- `Platform` (R103): the byte the platform answers to a read that neither RAM nor ROM of the model answers, by the
platform's state and the address. It is a device's answer, or, where no device drives, `OPEN_BUS_VALUE` (R114; U10, U20). -/
opaque platformRead : Nat → Word → Byte

/-- `Platform` (R103): the platform's state after a transaction, by its state before, whether the CPU (or another bus
master) made the transaction, its address, whether it is a write, and its byte. -/
opaque platformNext (state : Nat) (byCpu : Bool) (addr : Word) (write : Bool) (data : Byte) : Nat

/-- `Platform` (R113): the platform's state after a byte of a memory image is loaded at an address it answers. -/
opaque platformLoad : Nat → Word → Byte → Nat

/-- The byte a read returns while AEC is low (R311; U11), by the cycle counter at the read. -/
opaque aecRead : Nat → Byte

/-- The byte SHA, SHX, SHY or TAS writes when RDY or AEC was low during the instruction (R616; U14), by the cycle
counter at the write. -/
opaque highStoreValue : Nat → Byte

/-- The high byte of the address SHA, SHX, SHY or TAS writes to when RDY or AEC was low during the instruction (R616;
U14), by the cycle counter at the write. -/
opaque highStoreHigh : Nat → Byte

/-- The level of a pin that a `PropagationOverflow` has left unspecified (R214; U3), by the number of records in the fault
log, its own included, and the pin's number. -/
opaque overflowLevel : Nat → Nat → Bool

/-- The scratch registers between two sequences (R63; U7): by the cycle counter at the boundary and the number of the
byte of scratch. -/
opaque scratchByte : Nat → Nat → Byte

end Sys2Proof.Config
end

