-- ==== Sys2Proof/Syntax.lean ====
section
/-! DEFINITION. The instructions: one constructor per row of spec/opcode_table.json (30_encoding.md R154, R161), 256 in
all. A constructor is named by its mnemonic and addressing mode, with its opcode where several rows share both. Its
argument is the operand of R153: `imm8`, `zp8`, `rel8` or `addr16`, and for BRK the signature byte that is fetched and
skipped (R151). The rows with an operand come first. -/

namespace Sys2Proof

/-- An instruction with its operand. Each constructor names its opcode, its operation's rule and its mode's rule. -/
inductive Instr
  /-- $00: BRK impl (R525, R369). -/
  | brk (signature : Byte)
  /-- $01: ORA (zp,X) (R459, R360). -/
  | oraIzx (zp8 : Byte)
  /-- $03: SLO (zp,X) (R601, R360). -/
  | sloIzx (zp8 : Byte)
  /-- $04: NOP zp (R622, R354). -/
  | nopZp04 (zp8 : Byte)
  /-- $05: ORA zp (R459, R354). -/
  | oraZp (zp8 : Byte)
  /-- $06: ASL zp (R471, R354). -/
  | aslZp (zp8 : Byte)
  /-- $07: SLO zp (R601, R354). -/
  | sloZp (zp8 : Byte)
  /-- $09: ORA # (R459, R353). -/
  | oraImm (imm8 : Byte)
  /-- $0B: ANC # (R609, R353). -/
  | ancImm0B (imm8 : Byte)
  /-- $0C: NOP abs (R622, R357). -/
  | nopAbs (addr16 : Word)
  /-- $0D: ORA abs (R459, R357). -/
  | oraAbs (addr16 : Word)
  /-- $0E: ASL abs (R471, R357). -/
  | aslAbs (addr16 : Word)
  /-- $0F: SLO abs (R601, R357). -/
  | sloAbs (addr16 : Word)
  /-- $10: BPL rel (R527, R362). -/
  | bpl (rel8 : Byte)
  /-- $11: ORA (zp),Y (R459, R361). -/
  | oraIzy (zp8 : Byte)
  /-- $13: SLO (zp),Y (R601, R361). -/
  | sloIzy (zp8 : Byte)
  /-- $14: NOP zp,X (R622, R355). -/
  | nopZpx14 (zp8 : Byte)
  /-- $15: ORA zp,X (R459, R355). -/
  | oraZpx (zp8 : Byte)
  /-- $16: ASL zp,X (R471, R355). -/
  | aslZpx (zp8 : Byte)
  /-- $17: SLO zp,X (R601, R355). -/
  | sloZpx (zp8 : Byte)
  /-- $19: ORA abs,Y (R459, R359). -/
  | oraAby (addr16 : Word)
  /-- $1B: SLO abs,Y (R601, R359). -/
  | sloAby (addr16 : Word)
  /-- $1C: NOP abs,X (R622, R358). -/
  | nopAbx1C (addr16 : Word)
  /-- $1D: ORA abs,X (R459, R358). -/
  | oraAbx (addr16 : Word)
  /-- $1E: ASL abs,X (R471, R358). -/
  | aslAbx (addr16 : Word)
  /-- $1F: SLO abs,X (R601, R358). -/
  | sloAbx (addr16 : Word)
  /-- $20: JSR abs (R522, R366). -/
  | jsrAbs (addr16 : Word)
  /-- $21: AND (zp,X) (R458, R360). -/
  | andIzx (zp8 : Byte)
  /-- $23: RLA (zp,X) (R602, R360). -/
  | rlaIzx (zp8 : Byte)
  /-- $24: BIT zp (R464, R354). -/
  | bitZp (zp8 : Byte)
  /-- $25: AND zp (R458, R354). -/
  | andZp (zp8 : Byte)
  /-- $26: ROL zp (R473, R354). -/
  | rolZp (zp8 : Byte)
  /-- $27: RLA zp (R602, R354). -/
  | rlaZp (zp8 : Byte)
  /-- $29: AND # (R458, R353). -/
  | andImm (imm8 : Byte)
  /-- $2B: ANC # (R609, R353). -/
  | ancImm2B (imm8 : Byte)
  /-- $2C: BIT abs (R464, R357). -/
  | bitAbs (addr16 : Word)
  /-- $2D: AND abs (R458, R357). -/
  | andAbs (addr16 : Word)
  /-- $2E: ROL abs (R473, R357). -/
  | rolAbs (addr16 : Word)
  /-- $2F: RLA abs (R602, R357). -/
  | rlaAbs (addr16 : Word)
  /-- $30: BMI rel (R528, R362). -/
  | bmi (rel8 : Byte)
  /-- $31: AND (zp),Y (R458, R361). -/
  | andIzy (zp8 : Byte)
  /-- $33: RLA (zp),Y (R602, R361). -/
  | rlaIzy (zp8 : Byte)
  /-- $34: NOP zp,X (R622, R355). -/
  | nopZpx34 (zp8 : Byte)
  /-- $35: AND zp,X (R458, R355). -/
  | andZpx (zp8 : Byte)
  /-- $36: ROL zp,X (R473, R355). -/
  | rolZpx (zp8 : Byte)
  /-- $37: RLA zp,X (R602, R355). -/
  | rlaZpx (zp8 : Byte)
  /-- $39: AND abs,Y (R458, R359). -/
  | andAby (addr16 : Word)
  /-- $3B: RLA abs,Y (R602, R359). -/
  | rlaAby (addr16 : Word)
  /-- $3C: NOP abs,X (R622, R358). -/
  | nopAbx3C (addr16 : Word)
  /-- $3D: AND abs,X (R458, R358). -/
  | andAbx (addr16 : Word)
  /-- $3E: ROL abs,X (R473, R358). -/
  | rolAbx (addr16 : Word)
  /-- $3F: RLA abs,X (R602, R358). -/
  | rlaAbx (addr16 : Word)
  /-- $41: EOR (zp,X) (R460, R360). -/
  | eorIzx (zp8 : Byte)
  /-- $43: SRE (zp,X) (R603, R360). -/
  | sreIzx (zp8 : Byte)
  /-- $44: NOP zp (R622, R354). -/
  | nopZp44 (zp8 : Byte)
  /-- $45: EOR zp (R460, R354). -/
  | eorZp (zp8 : Byte)
  /-- $46: LSR zp (R472, R354). -/
  | lsrZp (zp8 : Byte)
  /-- $47: SRE zp (R603, R354). -/
  | sreZp (zp8 : Byte)
  /-- $49: EOR # (R460, R353). -/
  | eorImm (imm8 : Byte)
  /-- $4B: ALR # (R610, R353). -/
  | alrImm (imm8 : Byte)
  /-- $4C: JMP abs (R520, R370). -/
  | jmpAbs (addr16 : Word)
  /-- $4D: EOR abs (R460, R357). -/
  | eorAbs (addr16 : Word)
  /-- $4E: LSR abs (R472, R357). -/
  | lsrAbs (addr16 : Word)
  /-- $4F: SRE abs (R603, R357). -/
  | sreAbs (addr16 : Word)
  /-- $50: BVC rel (R529, R362). -/
  | bvc (rel8 : Byte)
  /-- $51: EOR (zp),Y (R460, R361). -/
  | eorIzy (zp8 : Byte)
  /-- $53: SRE (zp),Y (R603, R361). -/
  | sreIzy (zp8 : Byte)
  /-- $54: NOP zp,X (R622, R355). -/
  | nopZpx54 (zp8 : Byte)
  /-- $55: EOR zp,X (R460, R355). -/
  | eorZpx (zp8 : Byte)
  /-- $56: LSR zp,X (R472, R355). -/
  | lsrZpx (zp8 : Byte)
  /-- $57: SRE zp,X (R603, R355). -/
  | sreZpx (zp8 : Byte)
  /-- $59: EOR abs,Y (R460, R359). -/
  | eorAby (addr16 : Word)
  /-- $5B: SRE abs,Y (R603, R359). -/
  | sreAby (addr16 : Word)
  /-- $5C: NOP abs,X (R622, R358). -/
  | nopAbx5C (addr16 : Word)
  /-- $5D: EOR abs,X (R460, R358). -/
  | eorAbx (addr16 : Word)
  /-- $5E: LSR abs,X (R472, R358). -/
  | lsrAbx (addr16 : Word)
  /-- $5F: SRE abs,X (R603, R358). -/
  | sreAbx (addr16 : Word)
  /-- $61: ADC (zp,X) (R456, R360). -/
  | adcIzx (zp8 : Byte)
  /-- $63: RRA (zp,X) (R604, R360). -/
  | rraIzx (zp8 : Byte)
  /-- $64: NOP zp (R622, R354). -/
  | nopZp64 (zp8 : Byte)
  /-- $65: ADC zp (R456, R354). -/
  | adcZp (zp8 : Byte)
  /-- $66: ROR zp (R474, R354). -/
  | rorZp (zp8 : Byte)
  /-- $67: RRA zp (R604, R354). -/
  | rraZp (zp8 : Byte)
  /-- $69: ADC # (R456, R353). -/
  | adcImm (imm8 : Byte)
  /-- $6B: ARR # (R611, R353). -/
  | arrImm (imm8 : Byte)
  /-- $6C: JMP (abs) (R521, R363). -/
  | jmpInd (addr16 : Word)
  /-- $6D: ADC abs (R456, R357). -/
  | adcAbs (addr16 : Word)
  /-- $6E: ROR abs (R474, R357). -/
  | rorAbs (addr16 : Word)
  /-- $6F: RRA abs (R604, R357). -/
  | rraAbs (addr16 : Word)
  /-- $70: BVS rel (R530, R362). -/
  | bvs (rel8 : Byte)
  /-- $71: ADC (zp),Y (R456, R361). -/
  | adcIzy (zp8 : Byte)
  /-- $73: RRA (zp),Y (R604, R361). -/
  | rraIzy (zp8 : Byte)
  /-- $74: NOP zp,X (R622, R355). -/
  | nopZpx74 (zp8 : Byte)
  /-- $75: ADC zp,X (R456, R355). -/
  | adcZpx (zp8 : Byte)
  /-- $76: ROR zp,X (R474, R355). -/
  | rorZpx (zp8 : Byte)
  /-- $77: RRA zp,X (R604, R355). -/
  | rraZpx (zp8 : Byte)
  /-- $79: ADC abs,Y (R456, R359). -/
  | adcAby (addr16 : Word)
  /-- $7B: RRA abs,Y (R604, R359). -/
  | rraAby (addr16 : Word)
  /-- $7C: NOP abs,X (R622, R358). -/
  | nopAbx7C (addr16 : Word)
  /-- $7D: ADC abs,X (R456, R358). -/
  | adcAbx (addr16 : Word)
  /-- $7E: ROR abs,X (R474, R358). -/
  | rorAbx (addr16 : Word)
  /-- $7F: RRA abs,X (R604, R358). -/
  | rraAbx (addr16 : Word)
  /-- $80: NOP # (R622, R353). -/
  | nopImm80 (imm8 : Byte)
  /-- $81: STA (zp,X) (R404, R360). -/
  | staIzx (zp8 : Byte)
  /-- $82: NOP # (R622, R353). -/
  | nopImm82 (imm8 : Byte)
  /-- $83: SAX (zp,X) (R605, R360). -/
  | saxIzx (zp8 : Byte)
  /-- $84: STY zp (R406, R354). -/
  | styZp (zp8 : Byte)
  /-- $85: STA zp (R404, R354). -/
  | staZp (zp8 : Byte)
  /-- $86: STX zp (R405, R354). -/
  | stxZp (zp8 : Byte)
  /-- $87: SAX zp (R605, R354). -/
  | saxZp (zp8 : Byte)
  /-- $89: NOP # (R622, R353). -/
  | nopImm89 (imm8 : Byte)
  /-- $8B: ANE # (R612, R353). -/
  | aneImm (imm8 : Byte)
  /-- $8C: STY abs (R406, R357). -/
  | styAbs (addr16 : Word)
  /-- $8D: STA abs (R404, R357). -/
  | staAbs (addr16 : Word)
  /-- $8E: STX abs (R405, R357). -/
  | stxAbs (addr16 : Word)
  /-- $8F: SAX abs (R605, R357). -/
  | saxAbs (addr16 : Word)
  /-- $90: BCC rel (R531, R362). -/
  | bcc (rel8 : Byte)
  /-- $91: STA (zp),Y (R404, R361). -/
  | staIzy (zp8 : Byte)
  /-- $93: SHA (zp),Y (R617, R361, R372). -/
  | shaIzy (zp8 : Byte)
  /-- $94: STY zp,X (R406, R355). -/
  | styZpx (zp8 : Byte)
  /-- $95: STA zp,X (R404, R355). -/
  | staZpx (zp8 : Byte)
  /-- $96: STX zp,Y (R405, R356). -/
  | stxZpy (zp8 : Byte)
  /-- $97: SAX zp,Y (R605, R356). -/
  | saxZpy (zp8 : Byte)
  /-- $99: STA abs,Y (R404, R359). -/
  | staAby (addr16 : Word)
  /-- $9B: TAS abs,Y (R620, R359, R372). -/
  | tasAby (addr16 : Word)
  /-- $9C: SHY abs,X (R619, R358, R372). -/
  | shyAbx (addr16 : Word)
  /-- $9D: STA abs,X (R404, R358). -/
  | staAbx (addr16 : Word)
  /-- $9E: SHX abs,Y (R618, R359, R372). -/
  | shxAby (addr16 : Word)
  /-- $9F: SHA abs,Y (R617, R359, R372). -/
  | shaAby (addr16 : Word)
  /-- $A0: LDY # (R403, R353). -/
  | ldyImm (imm8 : Byte)
  /-- $A1: LDA (zp,X) (R401, R360). -/
  | ldaIzx (zp8 : Byte)
  /-- $A2: LDX # (R402, R353). -/
  | ldxImm (imm8 : Byte)
  /-- $A3: LAX (zp,X) (R606, R360). -/
  | laxIzx (zp8 : Byte)
  /-- $A4: LDY zp (R403, R354). -/
  | ldyZp (zp8 : Byte)
  /-- $A5: LDA zp (R401, R354). -/
  | ldaZp (zp8 : Byte)
  /-- $A6: LDX zp (R402, R354). -/
  | ldxZp (zp8 : Byte)
  /-- $A7: LAX zp (R606, R354). -/
  | laxZp (zp8 : Byte)
  /-- $A9: LDA # (R401, R353). -/
  | ldaImm (imm8 : Byte)
  /-- $AB: LXA # (R613, R353). -/
  | lxaImm (imm8 : Byte)
  /-- $AC: LDY abs (R403, R357). -/
  | ldyAbs (addr16 : Word)
  /-- $AD: LDA abs (R401, R357). -/
  | ldaAbs (addr16 : Word)
  /-- $AE: LDX abs (R402, R357). -/
  | ldxAbs (addr16 : Word)
  /-- $AF: LAX abs (R606, R357). -/
  | laxAbs (addr16 : Word)
  /-- $B0: BCS rel (R532, R362). -/
  | bcs (rel8 : Byte)
  /-- $B1: LDA (zp),Y (R401, R361). -/
  | ldaIzy (zp8 : Byte)
  /-- $B3: LAX (zp),Y (R606, R361). -/
  | laxIzy (zp8 : Byte)
  /-- $B4: LDY zp,X (R403, R355). -/
  | ldyZpx (zp8 : Byte)
  /-- $B5: LDA zp,X (R401, R355). -/
  | ldaZpx (zp8 : Byte)
  /-- $B6: LDX zp,Y (R402, R356). -/
  | ldxZpy (zp8 : Byte)
  /-- $B7: LAX zp,Y (R606, R356). -/
  | laxZpy (zp8 : Byte)
  /-- $B9: LDA abs,Y (R401, R359). -/
  | ldaAby (addr16 : Word)
  /-- $BB: LAS abs,Y (R621, R359). -/
  | lasAby (addr16 : Word)
  /-- $BC: LDY abs,X (R403, R358). -/
  | ldyAbx (addr16 : Word)
  /-- $BD: LDA abs,X (R401, R358). -/
  | ldaAbx (addr16 : Word)
  /-- $BE: LDX abs,Y (R402, R359). -/
  | ldxAby (addr16 : Word)
  /-- $BF: LAX abs,Y (R606, R359). -/
  | laxAby (addr16 : Word)
  /-- $C0: CPY # (R463, R353). -/
  | cpyImm (imm8 : Byte)
  /-- $C1: CMP (zp,X) (R461, R360). -/
  | cmpIzx (zp8 : Byte)
  /-- $C2: NOP # (R622, R353). -/
  | nopImmC2 (imm8 : Byte)
  /-- $C3: DCP (zp,X) (R607, R360). -/
  | dcpIzx (zp8 : Byte)
  /-- $C4: CPY zp (R463, R354). -/
  | cpyZp (zp8 : Byte)
  /-- $C5: CMP zp (R461, R354). -/
  | cmpZp (zp8 : Byte)
  /-- $C6: DEC zp (R466, R354). -/
  | decZp (zp8 : Byte)
  /-- $C7: DCP zp (R607, R354). -/
  | dcpZp (zp8 : Byte)
  /-- $C9: CMP # (R461, R353). -/
  | cmpImm (imm8 : Byte)
  /-- $CB: SBX # (R614, R353). -/
  | sbxImm (imm8 : Byte)
  /-- $CC: CPY abs (R463, R357). -/
  | cpyAbs (addr16 : Word)
  /-- $CD: CMP abs (R461, R357). -/
  | cmpAbs (addr16 : Word)
  /-- $CE: DEC abs (R466, R357). -/
  | decAbs (addr16 : Word)
  /-- $CF: DCP abs (R607, R357). -/
  | dcpAbs (addr16 : Word)
  /-- $D0: BNE rel (R533, R362). -/
  | bne (rel8 : Byte)
  /-- $D1: CMP (zp),Y (R461, R361). -/
  | cmpIzy (zp8 : Byte)
  /-- $D3: DCP (zp),Y (R607, R361). -/
  | dcpIzy (zp8 : Byte)
  /-- $D4: NOP zp,X (R622, R355). -/
  | nopZpxD4 (zp8 : Byte)
  /-- $D5: CMP zp,X (R461, R355). -/
  | cmpZpx (zp8 : Byte)
  /-- $D6: DEC zp,X (R466, R355). -/
  | decZpx (zp8 : Byte)
  /-- $D7: DCP zp,X (R607, R355). -/
  | dcpZpx (zp8 : Byte)
  /-- $D9: CMP abs,Y (R461, R359). -/
  | cmpAby (addr16 : Word)
  /-- $DB: DCP abs,Y (R607, R359). -/
  | dcpAby (addr16 : Word)
  /-- $DC: NOP abs,X (R622, R358). -/
  | nopAbxDC (addr16 : Word)
  /-- $DD: CMP abs,X (R461, R358). -/
  | cmpAbx (addr16 : Word)
  /-- $DE: DEC abs,X (R466, R358). -/
  | decAbx (addr16 : Word)
  /-- $DF: DCP abs,X (R607, R358). -/
  | dcpAbx (addr16 : Word)
  /-- $E0: CPX # (R462, R353). -/
  | cpxImm (imm8 : Byte)
  /-- $E1: SBC (zp,X) (R457, R360). -/
  | sbcIzx (zp8 : Byte)
  /-- $E2: NOP # (R622, R353). -/
  | nopImmE2 (imm8 : Byte)
  /-- $E3: ISC (zp,X) (R608, R360). -/
  | iscIzx (zp8 : Byte)
  /-- $E4: CPX zp (R462, R354). -/
  | cpxZp (zp8 : Byte)
  /-- $E5: SBC zp (R457, R354). -/
  | sbcZp (zp8 : Byte)
  /-- $E6: INC zp (R465, R354). -/
  | incZp (zp8 : Byte)
  /-- $E7: ISC zp (R608, R354). -/
  | iscZp (zp8 : Byte)
  /-- $E9: SBC # (R457, R353). -/
  | sbcImm (imm8 : Byte)
  /-- $EB: USBC # (R615, R353). -/
  | usbcImm (imm8 : Byte)
  /-- $EC: CPX abs (R462, R357). -/
  | cpxAbs (addr16 : Word)
  /-- $ED: SBC abs (R457, R357). -/
  | sbcAbs (addr16 : Word)
  /-- $EE: INC abs (R465, R357). -/
  | incAbs (addr16 : Word)
  /-- $EF: ISC abs (R608, R357). -/
  | iscAbs (addr16 : Word)
  /-- $F0: BEQ rel (R534, R362). -/
  | beq (rel8 : Byte)
  /-- $F1: SBC (zp),Y (R457, R361). -/
  | sbcIzy (zp8 : Byte)
  /-- $F3: ISC (zp),Y (R608, R361). -/
  | iscIzy (zp8 : Byte)
  /-- $F4: NOP zp,X (R622, R355). -/
  | nopZpxF4 (zp8 : Byte)
  /-- $F5: SBC zp,X (R457, R355). -/
  | sbcZpx (zp8 : Byte)
  /-- $F6: INC zp,X (R465, R355). -/
  | incZpx (zp8 : Byte)
  /-- $F7: ISC zp,X (R608, R355). -/
  | iscZpx (zp8 : Byte)
  /-- $F9: SBC abs,Y (R457, R359). -/
  | sbcAby (addr16 : Word)
  /-- $FB: ISC abs,Y (R608, R359). -/
  | iscAby (addr16 : Word)
  /-- $FC: NOP abs,X (R622, R358). -/
  | nopAbxFC (addr16 : Word)
  /-- $FD: SBC abs,X (R457, R358). -/
  | sbcAbx (addr16 : Word)
  /-- $FE: INC abs,X (R465, R358). -/
  | incAbx (addr16 : Word)
  /-- $FF: ISC abs,X (R608, R358). -/
  | iscAbx (addr16 : Word)
  /-- $02: JAM impl (R623, R371). -/
  | jam02
  /-- $08: PHP impl (R414, R364). -/
  | php
  /-- $0A: ASL A (R471, R352). -/
  | aslAcc
  /-- $12: JAM impl (R623, R371). -/
  | jam12
  /-- $18: CLC impl (R475, R351). -/
  | clc
  /-- $1A: NOP impl (R622, R351). -/
  | nop1A
  /-- $22: JAM impl (R623, R371). -/
  | jam22
  /-- $28: PLP impl (R416, R365). -/
  | plp
  /-- $2A: ROL A (R473, R352). -/
  | rolAcc
  /-- $32: JAM impl (R623, R371). -/
  | jam32
  /-- $38: SEC impl (R476, R351). -/
  | sec
  /-- $3A: NOP impl (R622, R351). -/
  | nop3A
  /-- $40: RTI impl (R524, R368). -/
  | rti
  /-- $42: JAM impl (R623, R371). -/
  | jam42
  /-- $48: PHA impl (R413, R364). -/
  | pha
  /-- $4A: LSR A (R472, R352). -/
  | lsrAcc
  /-- $52: JAM impl (R623, R371). -/
  | jam52
  /-- $58: CLI impl (R477, R351). -/
  | cli
  /-- $5A: NOP impl (R622, R351). -/
  | nop5A
  /-- $60: RTS impl (R523, R367). -/
  | rts
  /-- $62: JAM impl (R623, R371). -/
  | jam62
  /-- $68: PLA impl (R415, R365). -/
  | pla
  /-- $6A: ROR A (R474, R352). -/
  | rorAcc
  /-- $72: JAM impl (R623, R371). -/
  | jam72
  /-- $78: SEI impl (R478, R351). -/
  | sei
  /-- $7A: NOP impl (R622, R351). -/
  | nop7A
  /-- $88: DEY impl (R470, R351). -/
  | dey
  /-- $8A: TXA impl (R409, R351). -/
  | txa
  /-- $92: JAM impl (R623, R371). -/
  | jam92
  /-- $98: TYA impl (R410, R351). -/
  | tya
  /-- $9A: TXS impl (R412, R351). -/
  | txs
  /-- $A8: TAY impl (R408, R351). -/
  | tay
  /-- $AA: TAX impl (R407, R351). -/
  | tax
  /-- $B2: JAM impl (R623, R371). -/
  | jamB2
  /-- $B8: CLV impl (R481, R351). -/
  | clv
  /-- $BA: TSX impl (R411, R351). -/
  | tsx
  /-- $C8: INY impl (R468, R351). -/
  | iny
  /-- $CA: DEX impl (R469, R351). -/
  | dex
  /-- $D2: JAM impl (R623, R371). -/
  | jamD2
  /-- $D8: CLD impl (R479, R351). -/
  | cld
  /-- $DA: NOP impl (R622, R351). -/
  | nopDA
  /-- $E8: INX impl (R467, R351). -/
  | inx
  /-- $EA: NOP impl (R482, R351). -/
  | nop
  /-- $F2: JAM impl (R623, R371). -/
  | jamF2
  /-- $F8: SED impl (R480, R351). -/
  | sed
  /-- $FA: NOP impl (R622, R351). -/
  | nopFA
  deriving DecidableEq, Repr

end Sys2Proof
end

