-- ==== Sys2Proof/WellFormed.lean ====
section
/-! DEFINITION. Well-formed instructions. An operand is a byte or a word by its type, and each constructor is one row of the
opcode map, so the types already hold every condition 30_encoding.md puts on an instruction: no field has a value its
encoding does not admit (R151, R153, R156). What remains to check is a list of bytes: it must be as long as its opcode's
format says (R150, R151), which `wellFormedBytes` in Decode.lean checks. -/

namespace Sys2Proof

/-- Whether the operand of an instruction fits the field its format gives it (R151, R153). The types see to it that every
operand does. -/
def Instr.wellFormed (_ : Instr) : Bool := true

end Sys2Proof
end

