-- ==== Sys2Proof/Decode.lean ====
section
/-! DEFINITION. The decoder and the encoder (30_encoding.md). The opcode byte alone decides the instruction and its length
(R150, R158); the opcode map below is R154's, row by row (high nibble), in the order of the columns (low nibble). -/

namespace Sys2Proof

/-- How an instruction is completed from the bytes after its opcode (R151): none (F1), one byte (F2, FB), or a 16-bit
address, low byte first (F3). -/
inductive Entry
  | f1 (i : Instr)
  | f2 (make : Byte → Instr)
  | f3 (make : Word → Instr)

/-- Why the decoder rejects a list of bytes. No opcode is rejected (R154, R156). -/
inductive DecodeError
  /-- There is no opcode byte. -/
  | noOpcode
  /-- There are fewer operand bytes than the opcode's format has. -/
  | missingOperand (opcode : Byte)
  deriving DecidableEq, Repr

/-- Row 0x of the opcode map (R154). -/
def opcodeRow0 : List Entry :=
  [.f2 .brk, .f2 .oraIzx, .f1 .jam02, .f2 .sloIzx,
   .f2 .nopZp04, .f2 .oraZp, .f2 .aslZp, .f2 .sloZp,
   .f1 .php, .f2 .oraImm, .f1 .aslAcc, .f2 .ancImm0B,
   .f3 .nopAbs, .f3 .oraAbs, .f3 .aslAbs, .f3 .sloAbs]

/-- Row 1x of the opcode map (R154). -/
def opcodeRow1 : List Entry :=
  [.f2 .bpl, .f2 .oraIzy, .f1 .jam12, .f2 .sloIzy,
   .f2 .nopZpx14, .f2 .oraZpx, .f2 .aslZpx, .f2 .sloZpx,
   .f1 .clc, .f3 .oraAby, .f1 .nop1A, .f3 .sloAby,
   .f3 .nopAbx1C, .f3 .oraAbx, .f3 .aslAbx, .f3 .sloAbx]

/-- Row 2x of the opcode map (R154). -/
def opcodeRow2 : List Entry :=
  [.f3 .jsrAbs, .f2 .andIzx, .f1 .jam22, .f2 .rlaIzx,
   .f2 .bitZp, .f2 .andZp, .f2 .rolZp, .f2 .rlaZp,
   .f1 .plp, .f2 .andImm, .f1 .rolAcc, .f2 .ancImm2B,
   .f3 .bitAbs, .f3 .andAbs, .f3 .rolAbs, .f3 .rlaAbs]

/-- Row 3x of the opcode map (R154). -/
def opcodeRow3 : List Entry :=
  [.f2 .bmi, .f2 .andIzy, .f1 .jam32, .f2 .rlaIzy,
   .f2 .nopZpx34, .f2 .andZpx, .f2 .rolZpx, .f2 .rlaZpx,
   .f1 .sec, .f3 .andAby, .f1 .nop3A, .f3 .rlaAby,
   .f3 .nopAbx3C, .f3 .andAbx, .f3 .rolAbx, .f3 .rlaAbx]

/-- Row 4x of the opcode map (R154). -/
def opcodeRow4 : List Entry :=
  [.f1 .rti, .f2 .eorIzx, .f1 .jam42, .f2 .sreIzx,
   .f2 .nopZp44, .f2 .eorZp, .f2 .lsrZp, .f2 .sreZp,
   .f1 .pha, .f2 .eorImm, .f1 .lsrAcc, .f2 .alrImm,
   .f3 .jmpAbs, .f3 .eorAbs, .f3 .lsrAbs, .f3 .sreAbs]

/-- Row 5x of the opcode map (R154). -/
def opcodeRow5 : List Entry :=
  [.f2 .bvc, .f2 .eorIzy, .f1 .jam52, .f2 .sreIzy,
   .f2 .nopZpx54, .f2 .eorZpx, .f2 .lsrZpx, .f2 .sreZpx,
   .f1 .cli, .f3 .eorAby, .f1 .nop5A, .f3 .sreAby,
   .f3 .nopAbx5C, .f3 .eorAbx, .f3 .lsrAbx, .f3 .sreAbx]

/-- Row 6x of the opcode map (R154). -/
def opcodeRow6 : List Entry :=
  [.f1 .rts, .f2 .adcIzx, .f1 .jam62, .f2 .rraIzx,
   .f2 .nopZp64, .f2 .adcZp, .f2 .rorZp, .f2 .rraZp,
   .f1 .pla, .f2 .adcImm, .f1 .rorAcc, .f2 .arrImm,
   .f3 .jmpInd, .f3 .adcAbs, .f3 .rorAbs, .f3 .rraAbs]

/-- Row 7x of the opcode map (R154). -/
def opcodeRow7 : List Entry :=
  [.f2 .bvs, .f2 .adcIzy, .f1 .jam72, .f2 .rraIzy,
   .f2 .nopZpx74, .f2 .adcZpx, .f2 .rorZpx, .f2 .rraZpx,
   .f1 .sei, .f3 .adcAby, .f1 .nop7A, .f3 .rraAby,
   .f3 .nopAbx7C, .f3 .adcAbx, .f3 .rorAbx, .f3 .rraAbx]

/-- Row 8x of the opcode map (R154). -/
def opcodeRow8 : List Entry :=
  [.f2 .nopImm80, .f2 .staIzx, .f2 .nopImm82, .f2 .saxIzx,
   .f2 .styZp, .f2 .staZp, .f2 .stxZp, .f2 .saxZp,
   .f1 .dey, .f2 .nopImm89, .f1 .txa, .f2 .aneImm,
   .f3 .styAbs, .f3 .staAbs, .f3 .stxAbs, .f3 .saxAbs]

/-- Row 9x of the opcode map (R154). -/
def opcodeRow9 : List Entry :=
  [.f2 .bcc, .f2 .staIzy, .f1 .jam92, .f2 .shaIzy,
   .f2 .styZpx, .f2 .staZpx, .f2 .stxZpy, .f2 .saxZpy,
   .f1 .tya, .f3 .staAby, .f1 .txs, .f3 .tasAby,
   .f3 .shyAbx, .f3 .staAbx, .f3 .shxAby, .f3 .shaAby]

/-- Row Ax of the opcode map (R154). -/
def opcodeRowA : List Entry :=
  [.f2 .ldyImm, .f2 .ldaIzx, .f2 .ldxImm, .f2 .laxIzx,
   .f2 .ldyZp, .f2 .ldaZp, .f2 .ldxZp, .f2 .laxZp,
   .f1 .tay, .f2 .ldaImm, .f1 .tax, .f2 .lxaImm,
   .f3 .ldyAbs, .f3 .ldaAbs, .f3 .ldxAbs, .f3 .laxAbs]

/-- Row Bx of the opcode map (R154). -/
def opcodeRowB : List Entry :=
  [.f2 .bcs, .f2 .ldaIzy, .f1 .jamB2, .f2 .laxIzy,
   .f2 .ldyZpx, .f2 .ldaZpx, .f2 .ldxZpy, .f2 .laxZpy,
   .f1 .clv, .f3 .ldaAby, .f1 .tsx, .f3 .lasAby,
   .f3 .ldyAbx, .f3 .ldaAbx, .f3 .ldxAby, .f3 .laxAby]

/-- Row Cx of the opcode map (R154). -/
def opcodeRowC : List Entry :=
  [.f2 .cpyImm, .f2 .cmpIzx, .f2 .nopImmC2, .f2 .dcpIzx,
   .f2 .cpyZp, .f2 .cmpZp, .f2 .decZp, .f2 .dcpZp,
   .f1 .iny, .f2 .cmpImm, .f1 .dex, .f2 .sbxImm,
   .f3 .cpyAbs, .f3 .cmpAbs, .f3 .decAbs, .f3 .dcpAbs]

/-- Row Dx of the opcode map (R154). -/
def opcodeRowD : List Entry :=
  [.f2 .bne, .f2 .cmpIzy, .f1 .jamD2, .f2 .dcpIzy,
   .f2 .nopZpxD4, .f2 .cmpZpx, .f2 .decZpx, .f2 .dcpZpx,
   .f1 .cld, .f3 .cmpAby, .f1 .nopDA, .f3 .dcpAby,
   .f3 .nopAbxDC, .f3 .cmpAbx, .f3 .decAbx, .f3 .dcpAbx]

/-- Row Ex of the opcode map (R154). -/
def opcodeRowE : List Entry :=
  [.f2 .cpxImm, .f2 .sbcIzx, .f2 .nopImmE2, .f2 .iscIzx,
   .f2 .cpxZp, .f2 .sbcZp, .f2 .incZp, .f2 .iscZp,
   .f1 .inx, .f2 .sbcImm, .f1 .nop, .f2 .usbcImm,
   .f3 .cpxAbs, .f3 .sbcAbs, .f3 .incAbs, .f3 .iscAbs]

/-- Row Fx of the opcode map (R154). -/
def opcodeRowF : List Entry :=
  [.f2 .beq, .f2 .sbcIzy, .f1 .jamF2, .f2 .iscIzy,
   .f2 .nopZpxF4, .f2 .sbcZpx, .f2 .incZpx, .f2 .iscZpx,
   .f1 .sed, .f3 .sbcAby, .f1 .nopFA, .f3 .iscAby,
   .f3 .nopAbxFC, .f3 .sbcAbx, .f3 .incAbx, .f3 .iscAbx]

/-- The opcode map (R154), by rows. -/
def opcodeMap : List (List Entry) :=
  [opcodeRow0, opcodeRow1, opcodeRow2, opcodeRow3, opcodeRow4, opcodeRow5, opcodeRow6, opcodeRow7] ++
  [opcodeRow8, opcodeRow9, opcodeRowA, opcodeRowB, opcodeRowC, opcodeRowD, opcodeRowE, opcodeRowF]

/-- The entry of an opcode: the row of its high nibble, the column of its low nibble. -/
def entryOf (opcode : Byte) : Option Entry := ((opcodeMap[opcode.toNat / 16]?).getD [])[opcode.toNat % 16]?

/-- The instruction at the head of a list of bytes, and the bytes after it (R105, R150, R153). -/
def decode : List Byte → Except DecodeError (Instr × List Byte)
  | [] => .error .noOpcode
  | opcode :: rest =>
    match entryOf opcode, rest with
    | some (.f1 i), _ => .ok (i, rest)
    | some (.f2 make), b :: rest' => .ok (make b, rest')
    | some (.f3 make), lo :: hi :: rest' => .ok (make (hi ++ lo), rest')
    | _, _ => .error (.missingOperand opcode)

/-- Whether a list of bytes is exactly one instruction: its opcode followed by as many operand bytes as the format of the
opcode has (R150, R151). -/
def wellFormedBytes (bytes : List Byte) : Bool :=
  match decode bytes with
  | .ok (_, []) => true
  | _ => false

/-- Byte `k` of a number whose bits are numbered from the first byte up. -/
def byteOfNat (w k : Nat) : Byte := BitVec.ofNat 8 (w / 256 ^ k)

/-- The instruction the decoder reads from an instruction whose bits are `w`, `nbits` of them given and the bits above zero:
bits 7 to 0 are the opcode byte, 15 to 8 the second byte, 23 to 16 the third. -/
def decodeTableWord (nbits w : Nat) : Option Instr :=
  let v := w % 2 ^ nbits
  match decode [byteOfNat v 0, byteOfNat v 1, byteOfNat v 2] with
  | .ok (i, _) => some i
  | .error _ => none

/-- The two operand bytes of a 16-bit address, low byte first (R105). -/
def addrBytes (addr : Word) : List Byte := [addr.extractLsb' 0 8, addr.extractLsb' 8 8]

/-- The bytes of an instruction (R151, R154). -/
def encode : Instr → List Byte
  | .brk signature => [0x00, signature]
  | .oraIzx zp8 => [0x01, zp8]
  | .jam02 => [0x02]
  | .sloIzx zp8 => [0x03, zp8]
  | .nopZp04 zp8 => [0x04, zp8]
  | .oraZp zp8 => [0x05, zp8]
  | .aslZp zp8 => [0x06, zp8]
  | .sloZp zp8 => [0x07, zp8]
  | .php => [0x08]
  | .oraImm imm8 => [0x09, imm8]
  | .aslAcc => [0x0A]
  | .ancImm0B imm8 => [0x0B, imm8]
  | .nopAbs addr16 => 0x0C :: addrBytes addr16
  | .oraAbs addr16 => 0x0D :: addrBytes addr16
  | .aslAbs addr16 => 0x0E :: addrBytes addr16
  | .sloAbs addr16 => 0x0F :: addrBytes addr16
  | .bpl rel8 => [0x10, rel8]
  | .oraIzy zp8 => [0x11, zp8]
  | .jam12 => [0x12]
  | .sloIzy zp8 => [0x13, zp8]
  | .nopZpx14 zp8 => [0x14, zp8]
  | .oraZpx zp8 => [0x15, zp8]
  | .aslZpx zp8 => [0x16, zp8]
  | .sloZpx zp8 => [0x17, zp8]
  | .clc => [0x18]
  | .oraAby addr16 => 0x19 :: addrBytes addr16
  | .nop1A => [0x1A]
  | .sloAby addr16 => 0x1B :: addrBytes addr16
  | .nopAbx1C addr16 => 0x1C :: addrBytes addr16
  | .oraAbx addr16 => 0x1D :: addrBytes addr16
  | .aslAbx addr16 => 0x1E :: addrBytes addr16
  | .sloAbx addr16 => 0x1F :: addrBytes addr16
  | .jsrAbs addr16 => 0x20 :: addrBytes addr16
  | .andIzx zp8 => [0x21, zp8]
  | .jam22 => [0x22]
  | .rlaIzx zp8 => [0x23, zp8]
  | .bitZp zp8 => [0x24, zp8]
  | .andZp zp8 => [0x25, zp8]
  | .rolZp zp8 => [0x26, zp8]
  | .rlaZp zp8 => [0x27, zp8]
  | .plp => [0x28]
  | .andImm imm8 => [0x29, imm8]
  | .rolAcc => [0x2A]
  | .ancImm2B imm8 => [0x2B, imm8]
  | .bitAbs addr16 => 0x2C :: addrBytes addr16
  | .andAbs addr16 => 0x2D :: addrBytes addr16
  | .rolAbs addr16 => 0x2E :: addrBytes addr16
  | .rlaAbs addr16 => 0x2F :: addrBytes addr16
  | .bmi rel8 => [0x30, rel8]
  | .andIzy zp8 => [0x31, zp8]
  | .jam32 => [0x32]
  | .rlaIzy zp8 => [0x33, zp8]
  | .nopZpx34 zp8 => [0x34, zp8]
  | .andZpx zp8 => [0x35, zp8]
  | .rolZpx zp8 => [0x36, zp8]
  | .rlaZpx zp8 => [0x37, zp8]
  | .sec => [0x38]
  | .andAby addr16 => 0x39 :: addrBytes addr16
  | .nop3A => [0x3A]
  | .rlaAby addr16 => 0x3B :: addrBytes addr16
  | .nopAbx3C addr16 => 0x3C :: addrBytes addr16
  | .andAbx addr16 => 0x3D :: addrBytes addr16
  | .rolAbx addr16 => 0x3E :: addrBytes addr16
  | .rlaAbx addr16 => 0x3F :: addrBytes addr16
  | .rti => [0x40]
  | .eorIzx zp8 => [0x41, zp8]
  | .jam42 => [0x42]
  | .sreIzx zp8 => [0x43, zp8]
  | .nopZp44 zp8 => [0x44, zp8]
  | .eorZp zp8 => [0x45, zp8]
  | .lsrZp zp8 => [0x46, zp8]
  | .sreZp zp8 => [0x47, zp8]
  | .pha => [0x48]
  | .eorImm imm8 => [0x49, imm8]
  | .lsrAcc => [0x4A]
  | .alrImm imm8 => [0x4B, imm8]
  | .jmpAbs addr16 => 0x4C :: addrBytes addr16
  | .eorAbs addr16 => 0x4D :: addrBytes addr16
  | .lsrAbs addr16 => 0x4E :: addrBytes addr16
  | .sreAbs addr16 => 0x4F :: addrBytes addr16
  | .bvc rel8 => [0x50, rel8]
  | .eorIzy zp8 => [0x51, zp8]
  | .jam52 => [0x52]
  | .sreIzy zp8 => [0x53, zp8]
  | .nopZpx54 zp8 => [0x54, zp8]
  | .eorZpx zp8 => [0x55, zp8]
  | .lsrZpx zp8 => [0x56, zp8]
  | .sreZpx zp8 => [0x57, zp8]
  | .cli => [0x58]
  | .eorAby addr16 => 0x59 :: addrBytes addr16
  | .nop5A => [0x5A]
  | .sreAby addr16 => 0x5B :: addrBytes addr16
  | .nopAbx5C addr16 => 0x5C :: addrBytes addr16
  | .eorAbx addr16 => 0x5D :: addrBytes addr16
  | .lsrAbx addr16 => 0x5E :: addrBytes addr16
  | .sreAbx addr16 => 0x5F :: addrBytes addr16
  | .rts => [0x60]
  | .adcIzx zp8 => [0x61, zp8]
  | .jam62 => [0x62]
  | .rraIzx zp8 => [0x63, zp8]
  | .nopZp64 zp8 => [0x64, zp8]
  | .adcZp zp8 => [0x65, zp8]
  | .rorZp zp8 => [0x66, zp8]
  | .rraZp zp8 => [0x67, zp8]
  | .pla => [0x68]
  | .adcImm imm8 => [0x69, imm8]
  | .rorAcc => [0x6A]
  | .arrImm imm8 => [0x6B, imm8]
  | .jmpInd addr16 => 0x6C :: addrBytes addr16
  | .adcAbs addr16 => 0x6D :: addrBytes addr16
  | .rorAbs addr16 => 0x6E :: addrBytes addr16
  | .rraAbs addr16 => 0x6F :: addrBytes addr16
  | .bvs rel8 => [0x70, rel8]
  | .adcIzy zp8 => [0x71, zp8]
  | .jam72 => [0x72]
  | .rraIzy zp8 => [0x73, zp8]
  | .nopZpx74 zp8 => [0x74, zp8]
  | .adcZpx zp8 => [0x75, zp8]
  | .rorZpx zp8 => [0x76, zp8]
  | .rraZpx zp8 => [0x77, zp8]
  | .sei => [0x78]
  | .adcAby addr16 => 0x79 :: addrBytes addr16
  | .nop7A => [0x7A]
  | .rraAby addr16 => 0x7B :: addrBytes addr16
  | .nopAbx7C addr16 => 0x7C :: addrBytes addr16
  | .adcAbx addr16 => 0x7D :: addrBytes addr16
  | .rorAbx addr16 => 0x7E :: addrBytes addr16
  | .rraAbx addr16 => 0x7F :: addrBytes addr16
  | .nopImm80 imm8 => [0x80, imm8]
  | .staIzx zp8 => [0x81, zp8]
  | .nopImm82 imm8 => [0x82, imm8]
  | .saxIzx zp8 => [0x83, zp8]
  | .styZp zp8 => [0x84, zp8]
  | .staZp zp8 => [0x85, zp8]
  | .stxZp zp8 => [0x86, zp8]
  | .saxZp zp8 => [0x87, zp8]
  | .dey => [0x88]
  | .nopImm89 imm8 => [0x89, imm8]
  | .txa => [0x8A]
  | .aneImm imm8 => [0x8B, imm8]
  | .styAbs addr16 => 0x8C :: addrBytes addr16
  | .staAbs addr16 => 0x8D :: addrBytes addr16
  | .stxAbs addr16 => 0x8E :: addrBytes addr16
  | .saxAbs addr16 => 0x8F :: addrBytes addr16
  | .bcc rel8 => [0x90, rel8]
  | .staIzy zp8 => [0x91, zp8]
  | .jam92 => [0x92]
  | .shaIzy zp8 => [0x93, zp8]
  | .styZpx zp8 => [0x94, zp8]
  | .staZpx zp8 => [0x95, zp8]
  | .stxZpy zp8 => [0x96, zp8]
  | .saxZpy zp8 => [0x97, zp8]
  | .tya => [0x98]
  | .staAby addr16 => 0x99 :: addrBytes addr16
  | .txs => [0x9A]
  | .tasAby addr16 => 0x9B :: addrBytes addr16
  | .shyAbx addr16 => 0x9C :: addrBytes addr16
  | .staAbx addr16 => 0x9D :: addrBytes addr16
  | .shxAby addr16 => 0x9E :: addrBytes addr16
  | .shaAby addr16 => 0x9F :: addrBytes addr16
  | .ldyImm imm8 => [0xA0, imm8]
  | .ldaIzx zp8 => [0xA1, zp8]
  | .ldxImm imm8 => [0xA2, imm8]
  | .laxIzx zp8 => [0xA3, zp8]
  | .ldyZp zp8 => [0xA4, zp8]
  | .ldaZp zp8 => [0xA5, zp8]
  | .ldxZp zp8 => [0xA6, zp8]
  | .laxZp zp8 => [0xA7, zp8]
  | .tay => [0xA8]
  | .ldaImm imm8 => [0xA9, imm8]
  | .tax => [0xAA]
  | .lxaImm imm8 => [0xAB, imm8]
  | .ldyAbs addr16 => 0xAC :: addrBytes addr16
  | .ldaAbs addr16 => 0xAD :: addrBytes addr16
  | .ldxAbs addr16 => 0xAE :: addrBytes addr16
  | .laxAbs addr16 => 0xAF :: addrBytes addr16
  | .bcs rel8 => [0xB0, rel8]
  | .ldaIzy zp8 => [0xB1, zp8]
  | .jamB2 => [0xB2]
  | .laxIzy zp8 => [0xB3, zp8]
  | .ldyZpx zp8 => [0xB4, zp8]
  | .ldaZpx zp8 => [0xB5, zp8]
  | .ldxZpy zp8 => [0xB6, zp8]
  | .laxZpy zp8 => [0xB7, zp8]
  | .clv => [0xB8]
  | .ldaAby addr16 => 0xB9 :: addrBytes addr16
  | .tsx => [0xBA]
  | .lasAby addr16 => 0xBB :: addrBytes addr16
  | .ldyAbx addr16 => 0xBC :: addrBytes addr16
  | .ldaAbx addr16 => 0xBD :: addrBytes addr16
  | .ldxAby addr16 => 0xBE :: addrBytes addr16
  | .laxAby addr16 => 0xBF :: addrBytes addr16
  | .cpyImm imm8 => [0xC0, imm8]
  | .cmpIzx zp8 => [0xC1, zp8]
  | .nopImmC2 imm8 => [0xC2, imm8]
  | .dcpIzx zp8 => [0xC3, zp8]
  | .cpyZp zp8 => [0xC4, zp8]
  | .cmpZp zp8 => [0xC5, zp8]
  | .decZp zp8 => [0xC6, zp8]
  | .dcpZp zp8 => [0xC7, zp8]
  | .iny => [0xC8]
  | .cmpImm imm8 => [0xC9, imm8]
  | .dex => [0xCA]
  | .sbxImm imm8 => [0xCB, imm8]
  | .cpyAbs addr16 => 0xCC :: addrBytes addr16
  | .cmpAbs addr16 => 0xCD :: addrBytes addr16
  | .decAbs addr16 => 0xCE :: addrBytes addr16
  | .dcpAbs addr16 => 0xCF :: addrBytes addr16
  | .bne rel8 => [0xD0, rel8]
  | .cmpIzy zp8 => [0xD1, zp8]
  | .jamD2 => [0xD2]
  | .dcpIzy zp8 => [0xD3, zp8]
  | .nopZpxD4 zp8 => [0xD4, zp8]
  | .cmpZpx zp8 => [0xD5, zp8]
  | .decZpx zp8 => [0xD6, zp8]
  | .dcpZpx zp8 => [0xD7, zp8]
  | .cld => [0xD8]
  | .cmpAby addr16 => 0xD9 :: addrBytes addr16
  | .nopDA => [0xDA]
  | .dcpAby addr16 => 0xDB :: addrBytes addr16
  | .nopAbxDC addr16 => 0xDC :: addrBytes addr16
  | .cmpAbx addr16 => 0xDD :: addrBytes addr16
  | .decAbx addr16 => 0xDE :: addrBytes addr16
  | .dcpAbx addr16 => 0xDF :: addrBytes addr16
  | .cpxImm imm8 => [0xE0, imm8]
  | .sbcIzx zp8 => [0xE1, zp8]
  | .nopImmE2 imm8 => [0xE2, imm8]
  | .iscIzx zp8 => [0xE3, zp8]
  | .cpxZp zp8 => [0xE4, zp8]
  | .sbcZp zp8 => [0xE5, zp8]
  | .incZp zp8 => [0xE6, zp8]
  | .iscZp zp8 => [0xE7, zp8]
  | .inx => [0xE8]
  | .sbcImm imm8 => [0xE9, imm8]
  | .nop => [0xEA]
  | .usbcImm imm8 => [0xEB, imm8]
  | .cpxAbs addr16 => 0xEC :: addrBytes addr16
  | .sbcAbs addr16 => 0xED :: addrBytes addr16
  | .incAbs addr16 => 0xEE :: addrBytes addr16
  | .iscAbs addr16 => 0xEF :: addrBytes addr16
  | .beq rel8 => [0xF0, rel8]
  | .sbcIzy zp8 => [0xF1, zp8]
  | .jamF2 => [0xF2]
  | .iscIzy zp8 => [0xF3, zp8]
  | .nopZpxF4 zp8 => [0xF4, zp8]
  | .sbcZpx zp8 => [0xF5, zp8]
  | .incZpx zp8 => [0xF6, zp8]
  | .iscZpx zp8 => [0xF7, zp8]
  | .sed => [0xF8]
  | .sbcAby addr16 => 0xF9 :: addrBytes addr16
  | .nopFA => [0xFA]
  | .iscAby addr16 => 0xFB :: addrBytes addr16
  | .nopAbxFC addr16 => 0xFC :: addrBytes addr16
  | .sbcAbx addr16 => 0xFD :: addrBytes addr16
  | .incAbx addr16 => 0xFE :: addrBytes addr16
  | .iscAbx addr16 => 0xFF :: addrBytes addr16

/-- The mnemonic of an instruction (R161). -/
def Instr.mnemonic : Instr → String
  | .brk _ => "BRK"
  | .oraIzx _ => "ORA"
  | .jam02 => "JAM"
  | .sloIzx _ => "SLO"
  | .nopZp04 _ => "NOP"
  | .oraZp _ => "ORA"
  | .aslZp _ => "ASL"
  | .sloZp _ => "SLO"
  | .php => "PHP"
  | .oraImm _ => "ORA"
  | .aslAcc => "ASL"
  | .ancImm0B _ => "ANC"
  | .nopAbs _ => "NOP"
  | .oraAbs _ => "ORA"
  | .aslAbs _ => "ASL"
  | .sloAbs _ => "SLO"
  | .bpl _ => "BPL"
  | .oraIzy _ => "ORA"
  | .jam12 => "JAM"
  | .sloIzy _ => "SLO"
  | .nopZpx14 _ => "NOP"
  | .oraZpx _ => "ORA"
  | .aslZpx _ => "ASL"
  | .sloZpx _ => "SLO"
  | .clc => "CLC"
  | .oraAby _ => "ORA"
  | .nop1A => "NOP"
  | .sloAby _ => "SLO"
  | .nopAbx1C _ => "NOP"
  | .oraAbx _ => "ORA"
  | .aslAbx _ => "ASL"
  | .sloAbx _ => "SLO"
  | .jsrAbs _ => "JSR"
  | .andIzx _ => "AND"
  | .jam22 => "JAM"
  | .rlaIzx _ => "RLA"
  | .bitZp _ => "BIT"
  | .andZp _ => "AND"
  | .rolZp _ => "ROL"
  | .rlaZp _ => "RLA"
  | .plp => "PLP"
  | .andImm _ => "AND"
  | .rolAcc => "ROL"
  | .ancImm2B _ => "ANC"
  | .bitAbs _ => "BIT"
  | .andAbs _ => "AND"
  | .rolAbs _ => "ROL"
  | .rlaAbs _ => "RLA"
  | .bmi _ => "BMI"
  | .andIzy _ => "AND"
  | .jam32 => "JAM"
  | .rlaIzy _ => "RLA"
  | .nopZpx34 _ => "NOP"
  | .andZpx _ => "AND"
  | .rolZpx _ => "ROL"
  | .rlaZpx _ => "RLA"
  | .sec => "SEC"
  | .andAby _ => "AND"
  | .nop3A => "NOP"
  | .rlaAby _ => "RLA"
  | .nopAbx3C _ => "NOP"
  | .andAbx _ => "AND"
  | .rolAbx _ => "ROL"
  | .rlaAbx _ => "RLA"
  | .rti => "RTI"
  | .eorIzx _ => "EOR"
  | .jam42 => "JAM"
  | .sreIzx _ => "SRE"
  | .nopZp44 _ => "NOP"
  | .eorZp _ => "EOR"
  | .lsrZp _ => "LSR"
  | .sreZp _ => "SRE"
  | .pha => "PHA"
  | .eorImm _ => "EOR"
  | .lsrAcc => "LSR"
  | .alrImm _ => "ALR"
  | .jmpAbs _ => "JMP"
  | .eorAbs _ => "EOR"
  | .lsrAbs _ => "LSR"
  | .sreAbs _ => "SRE"
  | .bvc _ => "BVC"
  | .eorIzy _ => "EOR"
  | .jam52 => "JAM"
  | .sreIzy _ => "SRE"
  | .nopZpx54 _ => "NOP"
  | .eorZpx _ => "EOR"
  | .lsrZpx _ => "LSR"
  | .sreZpx _ => "SRE"
  | .cli => "CLI"
  | .eorAby _ => "EOR"
  | .nop5A => "NOP"
  | .sreAby _ => "SRE"
  | .nopAbx5C _ => "NOP"
  | .eorAbx _ => "EOR"
  | .lsrAbx _ => "LSR"
  | .sreAbx _ => "SRE"
  | .rts => "RTS"
  | .adcIzx _ => "ADC"
  | .jam62 => "JAM"
  | .rraIzx _ => "RRA"
  | .nopZp64 _ => "NOP"
  | .adcZp _ => "ADC"
  | .rorZp _ => "ROR"
  | .rraZp _ => "RRA"
  | .pla => "PLA"
  | .adcImm _ => "ADC"
  | .rorAcc => "ROR"
  | .arrImm _ => "ARR"
  | .jmpInd _ => "JMP"
  | .adcAbs _ => "ADC"
  | .rorAbs _ => "ROR"
  | .rraAbs _ => "RRA"
  | .bvs _ => "BVS"
  | .adcIzy _ => "ADC"
  | .jam72 => "JAM"
  | .rraIzy _ => "RRA"
  | .nopZpx74 _ => "NOP"
  | .adcZpx _ => "ADC"
  | .rorZpx _ => "ROR"
  | .rraZpx _ => "RRA"
  | .sei => "SEI"
  | .adcAby _ => "ADC"
  | .nop7A => "NOP"
  | .rraAby _ => "RRA"
  | .nopAbx7C _ => "NOP"
  | .adcAbx _ => "ADC"
  | .rorAbx _ => "ROR"
  | .rraAbx _ => "RRA"
  | .nopImm80 _ => "NOP"
  | .staIzx _ => "STA"
  | .nopImm82 _ => "NOP"
  | .saxIzx _ => "SAX"
  | .styZp _ => "STY"
  | .staZp _ => "STA"
  | .stxZp _ => "STX"
  | .saxZp _ => "SAX"
  | .dey => "DEY"
  | .nopImm89 _ => "NOP"
  | .txa => "TXA"
  | .aneImm _ => "ANE"
  | .styAbs _ => "STY"
  | .staAbs _ => "STA"
  | .stxAbs _ => "STX"
  | .saxAbs _ => "SAX"
  | .bcc _ => "BCC"
  | .staIzy _ => "STA"
  | .jam92 => "JAM"
  | .shaIzy _ => "SHA"
  | .styZpx _ => "STY"
  | .staZpx _ => "STA"
  | .stxZpy _ => "STX"
  | .saxZpy _ => "SAX"
  | .tya => "TYA"
  | .staAby _ => "STA"
  | .txs => "TXS"
  | .tasAby _ => "TAS"
  | .shyAbx _ => "SHY"
  | .staAbx _ => "STA"
  | .shxAby _ => "SHX"
  | .shaAby _ => "SHA"
  | .ldyImm _ => "LDY"
  | .ldaIzx _ => "LDA"
  | .ldxImm _ => "LDX"
  | .laxIzx _ => "LAX"
  | .ldyZp _ => "LDY"
  | .ldaZp _ => "LDA"
  | .ldxZp _ => "LDX"
  | .laxZp _ => "LAX"
  | .tay => "TAY"
  | .ldaImm _ => "LDA"
  | .tax => "TAX"
  | .lxaImm _ => "LXA"
  | .ldyAbs _ => "LDY"
  | .ldaAbs _ => "LDA"
  | .ldxAbs _ => "LDX"
  | .laxAbs _ => "LAX"
  | .bcs _ => "BCS"
  | .ldaIzy _ => "LDA"
  | .jamB2 => "JAM"
  | .laxIzy _ => "LAX"
  | .ldyZpx _ => "LDY"
  | .ldaZpx _ => "LDA"
  | .ldxZpy _ => "LDX"
  | .laxZpy _ => "LAX"
  | .clv => "CLV"
  | .ldaAby _ => "LDA"
  | .tsx => "TSX"
  | .lasAby _ => "LAS"
  | .ldyAbx _ => "LDY"
  | .ldaAbx _ => "LDA"
  | .ldxAby _ => "LDX"
  | .laxAby _ => "LAX"
  | .cpyImm _ => "CPY"
  | .cmpIzx _ => "CMP"
  | .nopImmC2 _ => "NOP"
  | .dcpIzx _ => "DCP"
  | .cpyZp _ => "CPY"
  | .cmpZp _ => "CMP"
  | .decZp _ => "DEC"
  | .dcpZp _ => "DCP"
  | .iny => "INY"
  | .cmpImm _ => "CMP"
  | .dex => "DEX"
  | .sbxImm _ => "SBX"
  | .cpyAbs _ => "CPY"
  | .cmpAbs _ => "CMP"
  | .decAbs _ => "DEC"
  | .dcpAbs _ => "DCP"
  | .bne _ => "BNE"
  | .cmpIzy _ => "CMP"
  | .jamD2 => "JAM"
  | .dcpIzy _ => "DCP"
  | .nopZpxD4 _ => "NOP"
  | .cmpZpx _ => "CMP"
  | .decZpx _ => "DEC"
  | .dcpZpx _ => "DCP"
  | .cld => "CLD"
  | .cmpAby _ => "CMP"
  | .nopDA => "NOP"
  | .dcpAby _ => "DCP"
  | .nopAbxDC _ => "NOP"
  | .cmpAbx _ => "CMP"
  | .decAbx _ => "DEC"
  | .dcpAbx _ => "DCP"
  | .cpxImm _ => "CPX"
  | .sbcIzx _ => "SBC"
  | .nopImmE2 _ => "NOP"
  | .iscIzx _ => "ISC"
  | .cpxZp _ => "CPX"
  | .sbcZp _ => "SBC"
  | .incZp _ => "INC"
  | .iscZp _ => "ISC"
  | .inx => "INX"
  | .sbcImm _ => "SBC"
  | .nop => "NOP"
  | .usbcImm _ => "USBC"
  | .cpxAbs _ => "CPX"
  | .sbcAbs _ => "SBC"
  | .incAbs _ => "INC"
  | .iscAbs _ => "ISC"
  | .beq _ => "BEQ"
  | .sbcIzy _ => "SBC"
  | .jamF2 => "JAM"
  | .iscIzy _ => "ISC"
  | .nopZpxF4 _ => "NOP"
  | .sbcZpx _ => "SBC"
  | .incZpx _ => "INC"
  | .iscZpx _ => "ISC"
  | .sed => "SED"
  | .sbcAby _ => "SBC"
  | .nopFA => "NOP"
  | .iscAby _ => "ISC"
  | .nopAbxFC _ => "NOP"
  | .sbcAbx _ => "SBC"
  | .incAbx _ => "INC"
  | .iscAbx _ => "ISC"

end Sys2Proof
end

