-- ==== Sys2Proof/Machine/State.lean ====
section
/-! DEFINITION. The state of the machine as plain data: the CPU's registers and micro-state (10_state.md section 1, 2),
its pins (section 3), the signal network (section 4), the platform's memory (20_memory.md R103), the fault log and the
bus trace; the reasons a step can stop; and the states at power-on (R90) and after the reset sequence (R91). -/

namespace Sys2Proof.Machine

/-! ### Pins and the signal network (10_state.md R70 to R79) -/

/-- The level of a pin (R75). -/
inductive Level
  | low
  | high
  deriving DecidableEq, Repr

/-- The direction of a pin (R75). -/
inductive Direction
  | input
  | output
  | hiZ
  deriving DecidableEq, Repr

/-- The component that created a pin (R75). The CPU owns the pins of R70; `memory` is the platform's memory, where it is on
the network (log entry 12). -/
inductive Owner
  | cpu
  | host
  | memory
  | component (number : Nat)
  deriving DecidableEq, Repr

/-- The name of a pin: one of the CPU's 30 pins (R70), or a pin another component created, by its number. -/
inductive PinId
  | addr (bit : Fin 16)
  | data (bit : Fin 8)
  | rw
  | reset
  | irq
  | phi0
  | aec
  | rdy
  | ext (number : Nat)
  deriving DecidableEq, Repr

/-- The name of a bus: the CPU's address bus, its data bus (R70), or a bus created with `Bus.create`, by its number. -/
inductive BusId
  | cpuAddr
  | cpuData
  | ext (number : Nat)
  deriving DecidableEq, Repr

/-- The level a sink's action sets, as data: a boolean expression over the notified value (its bits; a pin's new level is
bit 0) and the levels of pins. It lets a component react combinationally to a change (R206). -/
inductive LevelExpr
  | const (l : Level)
  | note (bit : Nat)
  | pin (p : PinId)
  | not (e : LevelExpr)
  | and (e f : LevelExpr)
  | or (e f : LevelExpr)
  deriving DecidableEq, Repr

/-- A change-notification sink as plain data (R206): what its component does, in order, when it is called with a value. A
sink sets levels and directions of its component's pins and buses, reads buses, and branches; `clock` is the CPU's own, on
PHI0 (R263). -/
inductive Sink
  | done
  /-- `Pin.level(p, v)` (R202). -/
  | setLevel (p : PinId) (v : LevelExpr) (next : Sink)
  /-- `Pin.direction(p, d)` (R201). -/
  | setDirection (p : PinId) (d : Direction) (next : Sink)
  /-- `Bus.value(b, n)` (R223), `n` being given bit by bit, bit 0 first. -/
  | writeBus (b : BusId) (bits : List LevelExpr) (next : Sink)
  /-- `Bus.direction(b, d)` (R221). -/
  | turnBus (b : BusId) (d : Direction) (next : Sink)
  /-- `Bus.value(b)` (R222): it may fault; what it reads are the levels of the bus's pins. -/
  | readBus (b : BusId) (next : Sink)
  /-- One sink or the other, then a third. -/
  | branch (high : LevelExpr) (yes no next : Sink)
  /-- `step()`, when the new level is the one `CLOCK_EDGE` selects (R263, R326). -/
  | clock (next : Sink)
  deriving DecidableEq, Repr

/-- A pin of a component other than the CPU (R75). Its links are in `Net.links`. -/
structure Pin where
  name : String
  owner : Owner
  direction : Direction
  level : Level
  sink : Option Sink
  deriving DecidableEq, Repr

/-- What made a link (R211, R231; D45): `Pin.connect`, or the connection of two connectors. -/
inductive LinkOrigin
  | direct
  | connector (c d : Nat)
  deriving DecidableEq, Repr

/-- An edge of the wiring graph (R76). -/
structure Link where
  p : PinId
  q : PinId
  origin : LinkOrigin
  deriving DecidableEq, Repr

/-- The aggregate sink of a bus (R77), with the component that registered it, whose pins its actions set (R208). -/
structure BusSink where
  owner : Owner
  sink : Sink
  deriving DecidableEq, Repr

/-- A bus created with `Bus.create` (R77): its pins, pin 0 first, and its aggregate sink. -/
structure BusRec where
  pins : List PinId
  sink : Option BusSink
  deriving DecidableEq, Repr

/-- The gender of a connector (R78). -/
inductive Gender
  | male
  | female
  deriving DecidableEq, Repr

/-- A connector (R78). -/
structure Connector where
  name : String
  gender : Gender
  pins : List PinId
  peer : Option Nat
  deriving DecidableEq, Repr

/-- One call of a sink (R206, R223): the pin or bus that was notified and the value it was given. -/
inductive Note
  | pin (p : PinId) (l : Level)
  | bus (b : BusId) (value : Nat)
  deriving DecidableEq, Repr

/-- The directions of a group of pins, pin 0 first. -/
abbrev Dirs (w : Nat) := Vector Direction w

/-- One direction for every pin of a group (R221). -/
def allPins {w : Nat} (d : Direction) : Dirs w := Vector.replicate w d

/-- The CPU's own pins (R70): levels, and the direction of each pin the CPU drives (R71). The five control pins are always
INPUT. -/
structure CpuPins where
  addr : Word
  addrDir : Dirs 16
  data : Byte
  dataDir : Dirs 8
  rw : Level
  rwDir : Direction
  reset : Level
  irq : Level
  phi0 : Level
  aec : Level
  rdy : Level
  deriving DecidableEq, Repr

/-- The signal network (10_state.md section 4): every pin, link, bus and connector. `cpuSinks` has the sinks of the CPU's
pins, `addrSink` and `dataSink` those of its buses. `memoryPins` has the data pins of the platform's memory, D0's first,
once it is on the network (log entry 12). `notes` lists the sink calls made so far, newest first, `choices` counts the
choices propagation has made between pins (R213), and `unsettled` is true from a `PropagationOverflow` on (R214); the last
four are the model's own. -/
structure Net where
  cpu : CpuPins
  cpuSinks : List (PinId × Sink)
  addrSink : Option BusSink
  dataSink : Option BusSink
  pins : List Pin
  links : List Link
  buses : List BusRec
  connectors : List Connector
  memoryPins : List PinId
  notes : List Note
  choices : Nat
  unsettled : Bool
  deriving DecidableEq, Repr

/-! ### Faults and refusals (60_exceptions.md R700) -/

/-- The fault kinds of R700, with the info the raising rule gives. -/
inductive FaultKind
  /-- Code 1: cycle 1 fetched a JAM opcode (R623). -/
  | jam (opcode : Byte) (addr : Word)
  /-- Code 2: `Pin.level(p, v)` on an INPUT pin (R202). -/
  | invalidDirectionPin (p : PinId)
  /-- Code 2: a bus write while its pins are INPUT (R223). -/
  | invalidDirectionBus (b : BusId)
  /-- Code 3: connecting two connectors of one gender (R231). -/
  | genderMismatch (c d : Nat)
  /-- Code 4: a bus read or write while its pins disagree in direction (R222, R223). -/
  | busDirectionMismatch (b : BusId)
  /-- Code 5: propagation nested deeper than `MAX_PROPAGATION_DEPTH` (R210, R214). -/
  | propagationOverflow (p : PinId) (depth : Nat)
  /-- Code 6: connecting a connector that has a peer (R231). -/
  | connectorBusy (c d : Nat)
  /-- Code 7: connecting buses of unequal width with no remapping (R225). -/
  | busWidthMismatch (a b : BusId)
  deriving DecidableEq, Repr

/-- A record of the fault log (R68, R700): the kind with its info, and `cycleCounter` at the raise. -/
structure FaultRec where
  kind : FaultKind
  cycle : Nat
  deriving DecidableEq, Repr

/-- Why a call stops with a fault (R701). Only the signal network raises these: its operations (Machine/Network.lean,
Machine/Connectors.lean) and the pin-level step (Machine/PinLevel.lean). No instruction raises one (R703): a JAM opcode is
a next state, with its record in the fault log. Stopping is safe: R701 says no rule describes what a faulted run does
next. -/
inductive Fault
  /-- R202, R223. Raised by a level or bus write on INPUT pins. Safe. -/
  | invalidDirection (r : FaultRec)
  /-- R231. Raised by connecting two connectors of one gender. Safe. -/
  | genderMismatch (r : FaultRec)
  /-- R222, R223. Raised by a bus read or write whose pins disagree in direction. Safe. -/
  | busDirectionMismatch (r : FaultRec)
  /-- R214. Raised by propagation nested too deep. Safe. -/
  | propagationOverflow (r : FaultRec)
  /-- R231. Raised by connecting a connected connector. Safe. -/
  | connectorBusy (r : FaultRec)
  /-- R225. Raised by connecting buses of unequal width with no remapping. Safe. -/
  | busWidthMismatch (r : FaultRec)
  deriving DecidableEq, Repr

/-- Why a call is refused: the model gives it no meaning. All are safe. -/
inductive Refusal
  /-- Raised by an arm of `exec` for an instruction that has no meaning yet. Safe. -/
  | notModelled (mnemonic : String)
  /-- Raised by `step` if the decoder rejected the bytes at PC. No three bytes are rejected (R154), so no state raises
  it. Safe. -/
  | undecodable
  /-- Raised by the host's memory image load while the CPU runs: the operation is defined only before execution starts or
  while halted (R113; U21). Safe. -/
  | loadWhileRunning
  /-- Raised by a component's call that sets the level, direction or sink of a pin it does not own, or writes a bus with such
  a pin: no such operation exists (R201, R202, R208). Safe. -/
  | foreignPin (p : PinId)
  /-- Raised by a call that gives a control pin of the CPU another direction than INPUT: they are always INPUT (R71). Safe. -/
  | controlPin (p : PinId)
  /-- Raised by a call that would propagate after a `PropagationOverflow`: the network is never again treated as settled
  (R214; U3, refuse). Safe. -/
  | unsettled
  /-- Raised by a network call that names a pin, bus or connector that was never created. Safe. -/
  | noSuchObject
  /-- Raised by another bus master's access while AEC is high: no such access exists (R116). Safe. -/
  | busNotReleased
  /-- Raised by `Bus.create` with no pins or with a pin listed twice (R220). Safe. -/
  | badBus
  deriving DecidableEq, Repr

/-! ### The CPU -/

/-- The six stored flags of P (R56): N, V, D, I, Z and C. -/
structure Flags where
  n : Bool
  v : Bool
  d : Bool
  i : Bool
  z : Bool
  c : Bool
  deriving DecidableEq, Repr

/-- The stage of the sequencer (R60). EXECUTE takes no step of its own (R304), so no state between two steps has it. -/
inductive Stage
  | opcode
  | decode
  | execute
  deriving DecidableEq, Repr

/-- The sequence the CPU is in (R60). -/
inductive Seq
  | instr
  | irq
  | reset
  deriving DecidableEq, Repr

/-- The scratch registers (R63). -/
structure Scratch where
  operand : Byte
  ea : Word
  ptr : Byte
  base : Word
  lo : Byte
  hi : Byte
  offset : Byte
  deriving DecidableEq, Repr

/-- The micro-state (R60 to R63). `disturbed` is the model's own: whether RDY or AEC has been low during the current
instruction, which R616 asks of the high-byte stores. -/
structure Micro where
  stage : Stage
  seq : Seq
  decodeCycle : Nat
  opcode : Byte
  scratch : Scratch
  disturbed : Bool
  deriving DecidableEq, Repr

/-- The direction of a transaction (R102). -/
inductive Rw
  | read
  | write
  deriving DecidableEq, Repr

/-- A transaction (R102). `delivered` is false for one performed while AEC is low, which does not reach the platform
(R311). -/
structure Txn where
  addr : Word
  rw : Rw
  data : Byte
  delivered : Bool
  deriving DecidableEq, Repr

/-- What answers at an address (R103, R114): memory that can be written, memory that cannot, or the rest of the platform (a
device, or nothing), which answers by its own state. -/
inductive RegionKind
  | ram
  | rom
  | external
  deriving DecidableEq, Repr

/-- A range of addresses, both ends included, and what answers there. -/
structure Region where
  first : Nat
  last : Nat
  kind : RegionKind
  deriving DecidableEq, Repr

/-- Memory as a list of cells in canonical form: addresses strictly rising, no cell equal to what an unlisted address
reads as. -/
abbrev Memory := List Host.Cell

/-- The parameters of R11 with a finite or plain choice. No step writes them. -/
structure Params where
  irqPollRule : Config.IrqPollRule
  clockEdge : Config.ClockEdge
  maxDepth : Nat
  deriving DecidableEq, Repr

/-- The state of the machine. INVENTORY.md lists every field with the rule that names it. -/
structure State where
  /-- The accumulator (R50). -/
  a : Byte
  /-- Index register X (R51). -/
  x : Byte
  /-- Index register Y (R52). -/
  y : Byte
  /-- The stack pointer (R53). -/
  sp : Byte
  /-- The program counter (R54). -/
  pc : Word
  /-- The status register's six stored flags (R55, R56). -/
  p : Flags
  /-- The micro-state (R60 to R63). -/
  micro : Micro
  /-- True while the RESET pin is low (R67). -/
  resetHeld : Bool
  /-- True until the reset sequence has begun (R67). -/
  resetPending : Bool
  /-- True from the fetch of a JAM opcode until RESET is seen low (R67). -/
  jammed : Bool
  /-- The pending interrupt latch (R66). -/
  irqPending : Bool
  /-- The number of micro-cycles performed (R64). -/
  cycleCounter : Nat
  /-- The address of the most recent opcode fetch (R65). -/
  lastOpcodeAddr : Word
  /-- The fault log, oldest first (R68). -/
  faultLog : List FaultRec
  /-- The signal network, with the CPU's pins (R70 to R79). -/
  net : Net
  /-- The platform's memory (R103). -/
  mem : Memory
  /-- The state of the rest of the platform (R103), as a number that `Config.platformRead` and `Config.platformNext` alone
  interpret. -/
  platform : Nat
  /-- What answers where: the first region that holds an address; RAM where none does (R103, R114). -/
  map : List Region
  /-- The bus trace, newest first (R102). -/
  trace : List Txn
  /-- The parameters of R11. -/
  params : Params
  deriving DecidableEq, Repr

/-! ### Power-on and reset (R90, R91) -/

/-- Every scratch byte zero: the value the model names for the scratch registers at power-on (log entry 2). -/
def Scratch.zero : Scratch :=
  { operand := 0, ea := 0, ptr := 0, base := 0, lo := 0, hi := 0, offset := 0 }

/-- The CPU's pins when the core is created (R90): every level LOW, and the directions R71 gives an idle step with AEC LOW
(log entry 6). -/
def CpuPins.powerOn : CpuPins :=
  { addr := 0, addrDir := allPins .hiZ, data := 0, dataDir := allPins .hiZ, rw := .low, rwDir := .hiZ,
    reset := .low, irq := .low, phi0 := .low, aec := .low, rdy := .low }

/-- The network when the core is created: the CPU's pins, with PHI0's sink (R263), and nothing else. -/
def Net.powerOn : Net :=
  { cpu := CpuPins.powerOn, cpuSinks := [(.phi0, .clock .done)], addrSink := none, dataSink := none, pins := [],
    links := [], buses := [], connectors := [], memoryPins := [], notes := [], choices := 0, unsettled := false }

/-- Power-on, the creation of the core (R90, R750). RESET is LOW, so `resetHeld` is true (R67). The registers and flags the
spec leaves unspecified are zero here (log entry 2), the parameters are those of log entry 3, every address is RAM (log
entry 4), and the rest of the platform is in the state numbered 0 (log entry 13). -/
def State.powerOn : State :=
  { a := 0, x := 0, y := 0, sp := 0, pc := 0,
    p := { n := false, v := false, d := false, i := false, z := false, c := false },
    micro := { stage := .opcode, seq := .instr, decodeCycle := 0, opcode := 0, scratch := Scratch.zero,
               disturbed := false },
    resetHeld := true, resetPending := true, jammed := false, irqPending := false,
    cycleCounter := 0, lastOpcodeAddr := 0, faultLog := [], net := Net.powerOn,
    mem := [], platform := 0, map := [], trace := [],
    params := { irqPollRule := .hardware, clockEdge := .rising, maxDepth := 16 } }

/-- The scratch registers at a boundary reached with the cycle counter at `k`: unspecified (R63; U7), so each byte is an
open value. -/
def Scratch.atBoundary (k : Nat) : Scratch :=
  { operand := Config.scratchByte k 0
    ea := Config.scratchByte k 1 ++ Config.scratchByte k 2
    ptr := Config.scratchByte k 3
    base := Config.scratchByte k 4 ++ Config.scratchByte k 5
    lo := Config.scratchByte k 6
    hi := Config.scratchByte k 7
    offset := Config.scratchByte k 8 }

/-- The CPU's pins after the reset sequence: as a read cycle at $FFFD (R751), with the control pins at their inactive
levels (log entry 5). -/
def CpuPins.afterReset : CpuPins :=
  { addr := 0xFFFD, addrDir := allPins .output, data := 0, dataDir := allPins .input, rw := .high, rwDir := .output,
    reset := .high, irq := .high, phi0 := .low, aec := .high, rdy := .high }

/-- The bus trace of the reset sequence from power-on (R374): seven reads of memory nothing has written. -/
def resetTrace : List Txn :=
  [0xFFFD, 0xFFFC, 0x01FE, 0x01FF, 0x0100, 0x0000, 0x0000].map
    (fun a => { addr := a, rw := .read, data := 0, delivered := true })

/-- The platform's state after the transactions of the reset sequence. -/
def resetPlatform : Nat :=
  resetTrace.foldr (fun x p => Config.platformNext p true x.addr (decide (x.rw = .write)) x.data) State.powerOn.platform

/-- The machine right after the reset sequence that follows power-on (R91, R751): at a boundary, I set, SP three below its
power-on value, PC the word at the reset vector of a memory nothing has written, seven cycles counted. -/
def State.reset : State :=
  { State.powerOn with
    sp := 0xFD
    pc := 0x0000
    p := { State.powerOn.p with i := true }
    micro := { stage := .opcode, seq := .instr, decodeCycle := 7, opcode := 0, scratch := Scratch.atBoundary 7,
               disturbed := false }
    resetHeld := false
    resetPending := false
    cycleCounter := 7
    net := { Net.powerOn with cpu := CpuPins.afterReset }
    platform := resetPlatform
    trace := resetTrace }

end Sys2Proof.Machine
end

