-- ==== Sys2Proof/Machine/Bits.lean ====
section
/-! DEFINITION. Bytes and words: byte order, extension and single bits (00_scope.md R12, R13; 20_memory.md R104). -/

namespace Sys2Proof.Machine

/-- `hi ++ lo`: the word with high byte `hi` and low byte `lo` (R13, R104). -/
def mkWord (hi lo : Byte) : Word := hi ++ lo

/-- Bits 15 to 8 of a word. -/
def hiByte (w : Word) : Byte := w.extractLsb' 8 8

/-- Bits 7 to 0 of a word. -/
def loByte (w : Word) : Byte := w.extractLsb' 0 8

/-- The zero-page address $00 ++ `zp` (R153). -/
def zpAddr (zp : Byte) : Word := mkWord 0x00 zp

/-- The address $0100 + `sp` in the stack page (R53, R106). -/
def stackAddr (sp : Byte) : Word := mkWord 0x01 sp

/-- `sext_16(v)` (R13). -/
def sext16 (v : Byte) : Word := v.signExtend 16

/-- `zext_16(v)` (R13). -/
def zext16 (v : Byte) : Word := v.setWidth 16

/-- Bit `i` of a byte (R12). -/
def bit (v : Byte) (i : Nat) : Bool := v.getLsbD i

/-- `base` plus an unsigned index, modulo 2^16 (R153). -/
def indexed (base : Word) (index : Byte) : Word := base + zext16 index

/-- The unfixed address: the index added to the low byte only (R358, R361). -/
def unfixed (base : Word) (index : Byte) : Word := mkWord (hiByte base) (loByte base + index)

/-- Whether adding the index carries into the high byte (R20, R358). -/
def crosses (base : Word) (index : Byte) : Bool := decide ((loByte base).toNat + index.toNat > 0xFF)

/-- `a ++ ((a + 1) & $FF)` of R108: the address after `a` within the page of `a`. -/
def nextInPage (a : Word) : Word := mkWord (hiByte a) (loByte a + 1)

end Sys2Proof.Machine
end

