-- ==== Sys2Proof/Machine/Memory.lean ====
section
/-! DEFINITION. The platform's memory: reading and writing one byte, the canonical form of the list, and which part of the
platform answers at an address (20_memory.md R100, R103, R114). -/

namespace Sys2Proof.Machine

/-- What a byte of memory that nothing has written reads as (log entry 4). -/
def Memory.blank : Byte := 0x00

/-- The byte at an address. -/
def Memory.read : Memory → Nat → Byte
  | [], _ => Memory.blank
  | cell :: rest, addr => if cell.1 = addr then cell.2 else Memory.read rest addr

/-- The memory with `v` at `addr`, in canonical form. -/
def Memory.write : Memory → Nat → Byte → Memory
  | [], addr, v => if v = Memory.blank then [] else [(addr, v)]
  | cell :: rest, addr, v =>
    if addr < cell.1 then (if v = Memory.blank then cell :: rest else (addr, v) :: cell :: rest)
    else if addr = cell.1 then (if v = Memory.blank then rest else (addr, v) :: rest)
    else cell :: Memory.write rest addr v

/-- The canonical form: addresses below 2^16 and strictly rising, no cell equal to what an unlisted address reads as. -/
def Memory.wf : Memory → Bool
  | [] => true
  | cell :: rest =>
    decide (cell.1 < 0x10000) && decide (cell.2 ≠ Memory.blank) && rest.all (fun later => decide (cell.1 < later.1)) &&
      Memory.wf rest

/-- What answers at an address: the first region that holds it, RAM where none does (R103). -/
def regionKind : List Region → Nat → RegionKind
  | [], _ => .ram
  | r :: rest, addr => if r.first ≤ addr ∧ addr ≤ r.last then r.kind else regionKind rest addr

/-- What answers at an address in this state. -/
def State.regionAt (s : State) (addr : Word) : RegionKind := regionKind s.map addr.toNat

end Sys2Proof.Machine
end

