-- ==== Sys2Proof/Machine/Ops.lean ====
section
/-! DEFINITION. The named operations every sequence is made of: one read or write cycle of the bus (R102, R305), the
fetches, the stack (R106), the interrupt poll (R320), the end of a sequence (R304), taking an interrupt and returning from
one (R707, R708; R369, R373, R368), the reset sequence (R374), the JAM lock-up (R313) and the idle step (R312).

A state is at the point just before the cycle an operation performs. The settled pins of each cycle are those of R260 and
R262. -/

namespace Sys2Proof.Machine

/-! ### Control pins and status byte -/

/-- RESET is active (R263). -/
def State.resetLow (s : State) : Bool := decide (s.net.cpu.reset = .low)

/-- IRQ is active (R263). -/
def State.irqLow (s : State) : Bool := decide (s.net.cpu.irq = .low)

/-- RDY is not ready (R263). -/
def State.rdyLow (s : State) : Bool := decide (s.net.cpu.rdy = .low)

/-- AEC releases the bus (R263). -/
def State.aecLow (s : State) : Bool := decide (s.net.cpu.aec = .low)

/-- The status byte with bit 5 as 1 and bit 4 as `b` (R55, R56). -/
def Flags.pack (f : Flags) (b : Bool) : Byte :=
  BitVec.ofBool f.n ++ BitVec.ofBool f.v ++ BitVec.ofBool true ++ BitVec.ofBool b ++ BitVec.ofBool f.d ++
    BitVec.ofBool f.i ++ BitVec.ofBool f.z ++ BitVec.ofBool f.c

/-- The six flags of a pulled status byte; bits 5 and 4 are ignored (R56, R416). -/
def Flags.unpack (v : Byte) : Flags :=
  { n := bit v 7, v := bit v 6, d := bit v 3, i := bit v 2, z := bit v 1, c := bit v 0 }

/-! ### Settled pins (R260, R262, R312) -/

/-- The CPU's pins with AEC low: A, D and RW released, no level set (R262). -/
def CpuPins.released (p : CpuPins) : CpuPins := { p with addrDir := allPins .hiZ, dataDir := allPins .hiZ, rwDir := .hiZ }

/-- The CPU's pins at the end of a read cycle that returned `v` (R260, R262). -/
def CpuPins.afterRead (p : CpuPins) (addr : Word) (v : Byte) : CpuPins :=
  match p.aec with
  | .low => p.released
  | .high =>
    { p with
      addr := addr, addrDir := allPins .output, rw := .high, rwDir := .output, data := v, dataDir := allPins .input }

/-- The CPU's pins at the end of a write cycle (R260, R262). -/
def CpuPins.afterWrite (p : CpuPins) (addr : Word) (v : Byte) : CpuPins :=
  match p.aec with
  | .low => p.released
  | .high =>
    { p with
      addr := addr, addrDir := allPins .output, rw := .low, rwDir := .output, data := v, dataDir := allPins .output }

/-- The CPU's pins after an idle step (R312, R71). -/
def CpuPins.afterIdle (p : CpuPins) : CpuPins :=
  match p.aec with
  | .low => p.released
  | .high => { p with addrDir := allPins .output, rw := .high, rwDir := .output, dataDir := allPins .input }

/-! ### One bus cycle (R102, R305) -/

/-- The byte the bus returns to a read of `addr` in the next cycle: an open value while AEC is low (R311), memory's byte
where RAM or ROM answers, the rest of the platform's answer elsewhere (R103, R114). -/
def State.busRead (s : State) (addr : Word) : Byte :=
  if s.aecLow then Config.aecRead s.cycleCounter
  else
    match s.regionAt addr with
    | .external => Config.platformRead s.platform addr
    | _ => s.mem.read addr.toNat

/-- The state of the rest of the platform after a transaction of the CPU: it sees every one (R103), but for those performed
while AEC is low (R311). -/
def State.observe (s : State) (addr : Word) (rw : Rw) (v : Byte) : Nat :=
  if s.aecLow then s.platform else Config.platformNext s.platform true addr (decide (rw = .write)) v

/-- The memory after a write: lost while AEC is low (R311); kept by RAM only (R103). -/
def State.stored (s : State) (addr : Word) (v : Byte) : Memory :=
  if s.aecLow then s.mem
  else
    match s.regionAt addr with
    | .ram => s.mem.write addr.toNat v
    | _ => s.mem

/-- The bookkeeping of one micro-cycle (R305, R61): the transaction joins the trace and reaches the platform, both counters
advance, the pins take `pins`, and a low RDY or AEC is remembered (R616). -/
def State.countCycle (s : State) (addr : Word) (rw : Rw) (v : Byte) (pins : CpuPins) : State :=
  { s with
    cycleCounter := s.cycleCounter + 1
    trace := { addr := addr, rw := rw, data := v, delivered := !s.aecLow } :: s.trace
    platform := s.observe addr rw v
    micro := { s.micro with
      decodeCycle := s.micro.decodeCycle + 1
      disturbed := s.micro.disturbed || s.aecLow || s.rdyLow }
    net := { s.net with cpu := pins } }

/-- A read cycle at `addr` that returns `v` (R102). -/
def State.readCycleAs (s : State) (addr : Word) (v : Byte) : State :=
  s.countCycle addr .read v (s.net.cpu.afterRead addr v)

/-- A read cycle at `addr`; it returns `s.busRead addr` (R102). -/
def State.readCycle (s : State) (addr : Word) : State := s.readCycleAs addr (s.busRead addr)

/-- A write cycle (R102). -/
def State.writeCycle (s : State) (addr : Word) (v : Byte) : State :=
  { s with mem := s.stored addr v }.countCycle addr .write v (s.net.cpu.afterWrite addr v)

/-! ### Registers, fetches and the stack -/

/-- PC ← PC + 1 modulo 2^16 (R54). -/
def State.incPc (s : State) : State := { s with pc := s.pc + 1 }

/-- PC ← `target`. -/
def State.setPc (s : State) (target : Word) : State := { s with pc := target }

/-- SP ← SP + 1 modulo 2^8 (R106). -/
def State.incSp (s : State) : State := { s with sp := s.sp + 1 }

/-- SP ← SP − 1 modulo 2^8 (R106). -/
def State.decSp (s : State) : State := { s with sp := s.sp - 1 }

/-- I ← 1 (R707). -/
def State.setI (s : State) : State := { s with p := { s.p with i := true } }

/-- The address `S` of the sequence tables (R350). -/
def State.stackTop (s : State) : Word := stackAddr s.sp

/-- A fetch cycle of the instruction byte `b`, which stands at PC (R105, R15). -/
def State.fetchCycle (s : State) (b : Byte) : State := (s.readCycleAs s.pc b).incPc

/-- A dummy read cycle at PC (R351). -/
def State.dummyPc (s : State) : State := s.readCycle s.pc

/-- A write cycle that pushes `v` (R106). -/
def State.pushCycle (s : State) (v : Byte) : State := (s.writeCycle s.stackTop v).decSp

/-- What the opcode fetch latches, after its read cycle (R302): `lastOpcodeAddr`, PC, the opcode, `decodeCycle` and the
stage. -/
def State.latchOpcode (s : State) (opcode : Byte) : State :=
  { s with
    lastOpcodeAddr := s.pc
    pc := s.pc + 1
    micro := { s.micro with
      stage := .decode, seq := .instr, opcode := opcode, decodeCycle := 1, disturbed := s.aecLow || s.rdyLow } }

/-- Cycle 1 of an instruction: the fetch of `opcode`, which stands at PC (R302). -/
def State.opcodeCycle (s : State) (opcode : Byte) : State := (s.readCycleAs s.pc opcode).latchOpcode opcode

/-! ### Interrupt poll and the end of a sequence -/

/-- The level a poll latches (R320). -/
def State.irqSeen (s : State) : Bool := s.irqLow && !s.p.i

/-- The poll at the end of a poll cycle of R321, under `IRQ_POLL_RULE = HARDWARE` (R320). -/
def State.poll (s : State) : State :=
  match s.params.irqPollRule with
  | .hardware => { s with irqPending := s.irqSeen }
  | .boundary => s

/-- The end of a sequence (R301, R304): stage OPCODE, and scratch registers no rule reads again (R63). While no sequence is in
progress `seq` is INSTR, which is the model's choice (log entry 28). -/
def State.toBoundary (s : State) : State :=
  { s with
    micro := { s.micro with
      stage := .opcode, seq := .instr, scratch := Scratch.atBoundary s.cycleCounter, disturbed := false } }

/-- The end of an instruction, after its effects: under `IRQ_POLL_RULE = BOUNDARY` it polls here (R322). -/
def State.endInstr (s : State) : State :=
  match s.params.irqPollRule with
  | .hardware => s.toBoundary
  | .boundary => { s with irqPending := s.irqSeen }.toBoundary

/-- The end of the BRK, interrupt and reset sequences: under `IRQ_POLL_RULE = BOUNDARY` they clear the latch (R322). -/
def State.endTrap (s : State) : State :=
  match s.params.irqPollRule with
  | .hardware => s.toBoundary
  | .boundary => { s with irqPending := false }.toBoundary

/-! ### Taking an interrupt, returning from one, reset and JAM -/

/-- Address of the low byte of the IRQ and BRK vector (R109). -/
def irqVectorLo : Word := 0xFFFE

/-- Address of the high byte of the IRQ and BRK vector (R109). -/
def irqVectorHi : Word := 0xFFFF

/-- Address of the low byte of the RESET vector (R109). -/
def resetVectorLo : Word := 0xFFFC

/-- Address of the high byte of the RESET vector (R109). -/
def resetVectorHi : Word := 0xFFFD

/-- The three pushes of an interrupt entry (R707): PC, high byte first, and P with bit 4 as `b`. -/
def State.pushPcAndStatus (s : State) (b : Bool) : State :=
  let s1 := (s.pushCycle (hiByte s.pc)).pushCycle (loByte s.pc)
  s1.pushCycle (s1.p.pack b)

/-- The two vector reads of cycles 6 and 7 (R369, R373, R374): I is set at cycle 6, where the poll is, and PC at
cycle 7. -/
def State.loadVector (s : State) (lo hi : Word) : State :=
  let s1 := (s.readCycle lo).setI.poll
  ((s1.readCycle hi).setPc (mkWord (s1.busRead hi) (s.busRead lo))).endTrap

/-- TAKING AN INTERRUPT (R707), shared by BRK (`b` true) and the interrupt sequence (`b` false): cycles 3 to 7 of R369 and
R373. PC and P go to the stack, I becomes 1, PC becomes the word at $FFFE/$FFFF. -/
def State.enterInterrupt (s : State) (b : Bool) : State := (s.pushPcAndStatus b).loadVector irqVectorLo irqVectorHi

/-- RETURNING FROM AN INTERRUPT (R708): cycles 3 to 6 of R368. P is pulled at cycle 4, the poll of cycle 5 sees it, and PC
is pulled with no increment. -/
def State.returnFromInterrupt (s : State) : State :=
  let s3 := (s.readCycle s.stackTop).incSp
  let s4 := { s3.readCycle s3.stackTop with p := Flags.unpack (s3.busRead s3.stackTop) }.incSp
  let s5 := (s4.readCycle s4.stackTop).incSp.poll
  ((s5.readCycle s5.stackTop).setPc (mkWord (s5.busRead s5.stackTop) (s4.busRead s4.stackTop))).endInstr

/-- The start of the interrupt sequence at a boundary (R300, R302): the latch is cleared and no cycle is performed yet. -/
def State.startIrq (s : State) : State :=
  { s with
    irqPending := false
    micro := { s.micro with stage := .decode, seq := .irq, decodeCycle := 0, disturbed := false } }

/-- The start of the reset sequence (R300, R309). -/
def State.startReset (s : State) : State :=
  { s with
    resetPending := false
    irqPending := false
    micro := { s.micro with stage := .decode, seq := .reset, decodeCycle := 0, disturbed := false } }

/-- The seven cycles of the interrupt sequence, once started (R373). -/
def State.irqSequence (s : State) : State := s.dummyPc.dummyPc.enterInterrupt false

/-- A suppressed push (R374): a dummy read of the stack that decrements SP. -/
def State.suppressedPush (s : State) : State := (s.readCycle s.stackTop).decSp

/-- The seven cycles of the reset sequence, once started (R374). -/
def State.resetSequence (s : State) : State :=
  s.dummyPc.dummyPc.suppressedPush.suppressedPush.suppressedPush.loadVector resetVectorLo resetVectorHi

/-- What a JAM opcode does after its fetch (R313, R623): the CPU is jammed and one record joins the fault log. It polls under
neither poll rule (log entry 24). -/
def State.enterJam (s : State) (opcode : Byte) : State :=
  { s with
    jammed := true
    faultLog := s.faultLog ++ [{ kind := .jam opcode s.lastOpcodeAddr, cycle := s.cycleCounter }]
    micro := { s.micro with stage := .opcode } }

/-! ### Idle steps and the checks at the start of a step -/

/-- An idle step (R312): no transaction; only the CPU's pins settle. -/
def State.idleCycle (s : State) : State := { s with net := { s.net with cpu := s.net.cpu.afterIdle } }

/-- A step stalled by RDY at a read cycle (R310): idle. A stall inside a sequence is remembered for R616. -/
def State.stallCycle (s : State) : State :=
  { s.idleCycle with
    micro := { s.micro with disturbed := s.micro.disturbed || decide (s.micro.stage ≠ .opcode) } }

/-- A step that finds RESET low (R308), before its idle cycle: any sequence in progress is abandoned, and `seq` becomes INSTR
(log entry 28). -/
def State.holdReset (s : State) : State :=
  { s with
    resetHeld := true
    resetPending := true
    jammed := false
    micro := { s.micro with stage := .opcode, seq := .instr, disturbed := false } }

/-- What the checks at the start of a step decide (R300): an idle step, or a cycle of a sequence (RDY not yet looked
at). -/
inductive Prelude
  | idle (s : State)
  | run (s : State)
  deriving DecidableEq, Repr

/-- The checks of R300 in its order: RESET, the pending reset, JAM, the pending interrupt. -/
def State.prelude (s : State) : Prelude :=
  if s.resetLow then .idle s.holdReset
  else
    let s1 := { s with resetHeld := false }
    let s2 := if s1.resetPending && decide (s1.micro.stage = .opcode) then s1.startReset else s1
    if s2.jammed then .idle s2
    else if decide (s2.micro.stage = .opcode) && s2.irqPending then .run s2.startIrq
    else .run s2

end Sys2Proof.Machine
end

