-- ==== Sys2Proof/Machine/Flags.lean ====
section
/-! DEFINITION. The flag helpers, the adders, the compare and the shifts (44_alu_flags.md sections 1 and 8). -/

namespace Sys2Proof.Machine

/-- The result byte and the four flags an adder gives (R451 to R454). -/
structure AluOut where
  r : Byte
  n : Bool
  v : Bool
  z : Bool
  c : Bool
  deriving DecidableEq, Repr

/-- The carry as a number. -/
def carryNat (c : Bool) : Nat := if c then 1 else 0

/-- A carry as the byte 0 or 1. -/
def carryByte (c : Bool) : Byte := if c then 1 else 0

/-- `setNZ(v)` (R450). -/
def Flags.setNZ (f : Flags) (v : Byte) : Flags := { f with n := bit v 7, z := decide (v = 0) }

/-- `addBin(a, b, c)` (R451). -/
def addBin (a b : Byte) (c : Bool) : AluOut :=
  let t := a.toNat + b.toNat + carryNat c
  let r := BitVec.ofNat 8 t
  { r := r
    c := decide (t > 0xFF)
    v := decide ((~~~(a ^^^ b)) &&& (a ^^^ r) &&& 0x80 ≠ 0)
    n := bit r 7
    z := decide (r = 0) }

/-- The low-digit sum of `addDec` after its correction (R452). -/
def addDecLow (a b : Byte) (c : Bool) : Nat :=
  let lo := (a &&& 0x0F).toNat + (b &&& 0x0F).toNat + carryNat c
  if lo ≥ 0x0A then (lo + 0x06) % 0x10 + 0x10 else lo

/-- The intermediate value `t` of `addDec`, before the high-digit correction (R452). -/
def addDecMid (a b : Byte) (c : Bool) : Nat := (a &&& 0xF0).toNat + (b &&& 0xF0).toNat + addDecLow a b c

/-- `addDec(a, b, c)` (R452): the NMOS decimal addition. -/
def addDec (a b : Byte) (c : Bool) : AluOut :=
  let t := addDecMid a b c
  let t8 := BitVec.ofNat 8 t
  let t' := if t ≥ 0xA0 then t + 0x60 else t
  { r := BitVec.ofNat 8 t'
    n := bit t8 7
    v := decide ((a ^^^ t8) &&& 0x80 ≠ 0) && decide ((a ^^^ b) &&& 0x80 = 0)
    c := decide (t' ≥ 0x100)
    z := decide ((a.toNat + b.toNat + carryNat c) % 256 = 0) }

/-- `subBin(a, b, c)` (R453); `c` is the inverted borrow. -/
def subBin (a b : Byte) (c : Bool) : AluOut :=
  let t : Int := (a.toNat : Int) - b.toNat - (1 - carryNat c)
  let r := BitVec.ofInt 8 t
  { r := r
    c := decide (t ≥ 0)
    v := decide ((a ^^^ r) &&& (a ^^^ b) &&& 0x80 ≠ 0)
    n := bit r 7
    z := decide (r = 0) }

/-- The low-digit difference of `subDec` after its correction (R454). -/
def subDecLow (a b : Byte) (c : Bool) : Int :=
  let lo : Int := ((a &&& 0x0F).toNat : Int) - (b &&& 0x0F).toNat - (1 - carryNat c)
  if lo < 0 then (lo - 0x06) % 0x10 - 0x10 else lo

/-- `subDec(a, b, c)` (R454): the flags of `subBin` and the decimal result. -/
def subDec (a b : Byte) (c : Bool) : AluOut :=
  let t : Int := ((a &&& 0xF0).toNat : Int) - (b &&& 0xF0).toNat + subDecLow a b c
  let t' := if t < 0 then t - 0x60 else t
  { subBin a b c with r := BitVec.ofInt 8 t' }

/-- The flags after `compare(r, b)` (R455): C, Z and N of the exact difference. -/
def Flags.compare (f : Flags) (r b : Byte) : Flags := { f.setNZ (r - b) with c := decide (r.toNat ≥ b.toNat) }

/-- The flags N, V, Z and C of an adder's result. -/
def Flags.ofAlu (f : Flags) (o : AluOut) : Flags := { f with n := o.n, v := o.v, z := o.z, c := o.c }

/-- The sum ADC stores, binary or decimal by D (R456). -/
def adcOut (f : Flags) (a m : Byte) : AluOut := if f.d then addDec a m f.c else addBin a m f.c

/-- The difference SBC stores, binary or decimal by D (R457). -/
def sbcOut (f : Flags) (a m : Byte) : AluOut := if f.d then subDec a m f.c else subBin a m f.c

/-- `shl(v)` (R483): result and new carry. -/
def shl (v : Byte) : Byte × Bool := (v <<< 1, bit v 7)

/-- `shr(v)` (R483). -/
def shr (v : Byte) : Byte × Bool := (v >>> 1, bit v 0)

/-- `rol(v, c)` (R483). -/
def rol (v : Byte) (c : Bool) : Byte × Bool := ((v <<< 1) ||| carryByte c, bit v 7)

/-- `ror(v, c)` (R483). -/
def ror (v : Byte) (c : Bool) : Byte × Bool := ((v >>> 1) ||| (carryByte c <<< 7), bit v 0)

/-- The flags after a shift: N and Z of the result, and the carry it shifts out (R471 to R474). -/
def Flags.shifted (f : Flags) (o : Byte × Bool) : Flags := { f.setNZ o.1 with c := o.2 }

/-- The state with N and Z set from a byte (R450). -/
def State.setNZ (s : State) (v : Byte) : State := { s with p := s.p.setNZ v }

end Sys2Proof.Machine
end

