-- ==== Sys2Proof/Machine/Operands.lean ====
section
/-! DEFINITION. The addressing modes (42_addressing_modes.md): for each mode its effective address and the cycles before
the operand's, and for each access class (R, W, M, and the high-byte stores of R372) the cycles from the operand's on.
An instruction is a mode, a class and the operation's own functions.

`opcode`, `zp`, `lo`, `hi` and `imm` are the instruction's bytes, which stand at PC. A poll is at the end of the cycle
before the last (R321). -/

namespace Sys2Proof.Machine

/-! ### From the operand's cycle to the end of the instruction (R350) -/

/-- Class R: the last cycle reads the operand at `ea`; `effect` is the operation. -/
def State.readTail (s : State) (ea : Word) (effect : Byte → State → State) : State :=
  (effect (s.busRead ea) (s.poll.readCycle ea)).endInstr

/-- Class W: the last cycle writes the value the operation names. -/
def State.writeTail (s : State) (ea : Word) (value : State → Byte) : State :=
  (s.poll.writeCycle ea (value s)).endInstr

/-- Class M: read the operand, write it back unchanged, write the result (R354). -/
def State.modifyTail (s : State) (ea : Word) (result : Byte → State → Byte) (effect : Byte → State → State) : State :=
  let m := s.busRead ea
  let s2 := ((s.readCycle ea).writeCycle ea m).poll
  (effect m (s2.writeCycle ea (result m s2))).endInstr

/-! ### High-byte stores (R616) -/

/-- Whether RDY or AEC is, or has been, low during the instruction, seen before its last cycle (R616; U14). -/
def State.highStoreOpen (s : State) : Bool := s.micro.disturbed || s.aecLow || s.rdyLow

/-- The value a high-byte store writes: `reg & ((H + 1) mod 256)` (R616), open when RDY or AEC was low (U14). -/
def State.highStoreValue (s : State) (base : Word) (reg : Byte) : Byte :=
  if s.highStoreOpen then Config.highStoreValue s.cycleCounter else reg &&& (hiByte base + 1)

/-- The high byte of the address a high-byte store writes to: the value stored when a page is crossed (R616), open when
RDY or AEC was low (U14). -/
def State.highStoreHigh (s : State) (base : Word) (index reg : Byte) : Byte :=
  if s.highStoreOpen then Config.highStoreHigh s.cycleCounter
  else if crosses base index then reg &&& (hiByte base + 1) else hiByte (indexed base index)

/-- The address a high-byte store writes to (R616). -/
def State.highStoreAddr (s : State) (base : Word) (index reg : Byte) : Word :=
  mkWord (s.highStoreHigh base index reg) (loByte base + index)

/-- The last cycle of a high-byte store (R372): the write of R616. -/
def State.highStoreTail (s : State) (base : Word) (index : Byte) (reg : State → Byte) (effect : State → State) : State :=
  (effect (s.poll.writeCycle (s.highStoreAddr base index (reg s)) (s.highStoreValue base (reg s)))).endInstr

/-! ### The cycles before the operand's, by mode -/

/-- Cycles 1 and 2: opcode and one operand byte. -/
def State.fetch2 (s : State) (opcode b : Byte) : State := (s.opcodeCycle opcode).fetchCycle b

/-- Cycles 1 to 3: opcode and two operand bytes, low byte first (R105). -/
def State.fetch3 (s : State) (opcode : Byte) (addr : Word) : State :=
  (s.fetch2 opcode (loByte addr)).fetchCycle (hiByte addr)

/-- zp,X and zp,Y, cycles 1 to 3 (R355, R356): the third is a dummy read at `zp`. -/
def State.headZpIndexed (s : State) (opcode zp : Byte) : State := (s.fetch2 opcode zp).readCycle (zpAddr zp)

/-- abs,X and abs,Y, cycles 1 to 4 with the dummy read at the unfixed address (R358, R359). -/
def State.headAbsFixed (s : State) (opcode : Byte) (addr : Word) (index : Byte) : State :=
  (s.fetch3 opcode addr).readCycle (unfixed addr index)

/-- abs,X and abs,Y of class R: the dummy read only when a page is crossed (R358, R359). -/
def State.headAbsRead (s : State) (opcode : Byte) (addr : Word) (index : Byte) : State :=
  if crosses addr index then s.headAbsFixed opcode addr index else s.fetch3 opcode addr

/-- The pointer byte's address of (zp,X): `(zp + X) mod 256` (R360). -/
def State.izxPtr (s : State) (zp : Byte) : Byte := zp + s.x

/-- (zp,X), cycles 1 to 5 (R360). -/
def State.headIzx (s : State) (opcode zp : Byte) : State :=
  ((s.headZpIndexed opcode zp).readCycle (zpAddr (s.izxPtr zp))).readCycle (zpAddr (s.izxPtr zp + 1))

/-- The effective address of (zp,X) (R360): the bytes cycles 4 and 5 read. -/
def State.eaIzx (s : State) (opcode zp : Byte) : Word :=
  let s3 := s.headZpIndexed opcode zp
  let s4 := s3.readCycle (zpAddr (s.izxPtr zp))
  mkWord (s4.busRead (zpAddr (s.izxPtr zp + 1))) (s3.busRead (zpAddr (s.izxPtr zp)))

/-- (zp),Y, cycles 1 to 4 (R361). -/
def State.headIzy (s : State) (opcode zp : Byte) : State :=
  ((s.fetch2 opcode zp).readCycle (zpAddr zp)).readCycle (zpAddr (zp + 1))

/-- The base address of (zp),Y (R361): the bytes cycles 3 and 4 read. -/
def State.baseIzy (s : State) (opcode zp : Byte) : Word :=
  let s2 := s.fetch2 opcode zp
  mkWord ((s2.readCycle (zpAddr zp)).busRead (zpAddr (zp + 1))) (s2.busRead (zpAddr zp))

/-- (zp),Y, cycles 1 to 5 with the dummy read at the unfixed address (R361). -/
def State.headIzyFixed (s : State) (opcode zp : Byte) : State :=
  (s.headIzy opcode zp).readCycle (unfixed (s.baseIzy opcode zp) s.y)

/-- (zp),Y of class R: the dummy read only when a page is crossed (R361). -/
def State.headIzyRead (s : State) (opcode zp : Byte) : State :=
  if crosses (s.baseIzy opcode zp) s.y then s.headIzyFixed opcode zp else s.headIzy opcode zp

/-- The effective address of zp,X (R355). -/
def State.eaZpx (s : State) (zp : Byte) : Word := zpAddr (zp + s.x)

/-- The effective address of zp,Y (R356). -/
def State.eaZpy (s : State) (zp : Byte) : Word := zpAddr (zp + s.y)

/-- The effective address of abs,X (R358). -/
def State.eaAbx (s : State) (addr : Word) : Word := indexed addr s.x

/-- The effective address of abs,Y (R359). -/
def State.eaAby (s : State) (addr : Word) : Word := indexed addr s.y

/-- The effective address of (zp),Y (R361). -/
def State.eaIzy (s : State) (opcode zp : Byte) : Word := indexed (s.baseIzy opcode zp) s.y

/-! ### Implied, accumulator and immediate (R351 to R353) -/

/-- Implied: two cycles, the second a dummy read (R351). -/
def implied (opcode : Byte) (effect : State → State) (s : State) : State :=
  (effect (s.opcodeCycle opcode).poll.dummyPc).endInstr

/-- Accumulator: the operand is A and the result goes to A (R352). -/
def accumulator (opcode : Byte) (result : Byte → State → Byte) (effect : Byte → State → State) (s : State) : State :=
  implied opcode (fun t => { effect t.a t with a := result t.a t }) s

/-- Immediate: the second cycle fetches the operand (R353). -/
def immediate (opcode imm : Byte) (effect : Byte → State → State) (s : State) : State :=
  (effect imm ((s.opcodeCycle opcode).poll.fetchCycle imm)).endInstr

/-! ### Class R in the memory modes -/

def readZp (opcode zp : Byte) (effect : Byte → State → State) (s : State) : State :=
  (s.fetch2 opcode zp).readTail (zpAddr zp) effect

def readZpx (opcode zp : Byte) (effect : Byte → State → State) (s : State) : State :=
  (s.headZpIndexed opcode zp).readTail (s.eaZpx zp) effect

def readZpy (opcode zp : Byte) (effect : Byte → State → State) (s : State) : State :=
  (s.headZpIndexed opcode zp).readTail (s.eaZpy zp) effect

def readAbs (opcode : Byte) (addr : Word) (effect : Byte → State → State) (s : State) : State :=
  (s.fetch3 opcode addr).readTail addr effect

def readAbx (opcode : Byte) (addr : Word) (effect : Byte → State → State) (s : State) : State :=
  (s.headAbsRead opcode addr s.x).readTail (s.eaAbx addr) effect

def readAby (opcode : Byte) (addr : Word) (effect : Byte → State → State) (s : State) : State :=
  (s.headAbsRead opcode addr s.y).readTail (s.eaAby addr) effect

def readIzx (opcode zp : Byte) (effect : Byte → State → State) (s : State) : State :=
  (s.headIzx opcode zp).readTail (s.eaIzx opcode zp) effect

def readIzy (opcode zp : Byte) (effect : Byte → State → State) (s : State) : State :=
  (s.headIzyRead opcode zp).readTail (s.eaIzy opcode zp) effect

/-! ### Class W -/

def writeZp (opcode zp : Byte) (value : State → Byte) (s : State) : State :=
  (s.fetch2 opcode zp).writeTail (zpAddr zp) value

def writeZpx (opcode zp : Byte) (value : State → Byte) (s : State) : State :=
  (s.headZpIndexed opcode zp).writeTail (s.eaZpx zp) value

def writeZpy (opcode zp : Byte) (value : State → Byte) (s : State) : State :=
  (s.headZpIndexed opcode zp).writeTail (s.eaZpy zp) value

def writeAbs (opcode : Byte) (addr : Word) (value : State → Byte) (s : State) : State :=
  (s.fetch3 opcode addr).writeTail addr value

def writeAbx (opcode : Byte) (addr : Word) (value : State → Byte) (s : State) : State :=
  (s.headAbsFixed opcode addr s.x).writeTail (s.eaAbx addr) value

def writeAby (opcode : Byte) (addr : Word) (value : State → Byte) (s : State) : State :=
  (s.headAbsFixed opcode addr s.y).writeTail (s.eaAby addr) value

def writeIzx (opcode zp : Byte) (value : State → Byte) (s : State) : State :=
  (s.headIzx opcode zp).writeTail (s.eaIzx opcode zp) value

def writeIzy (opcode zp : Byte) (value : State → Byte) (s : State) : State :=
  (s.headIzyFixed opcode zp).writeTail (s.eaIzy opcode zp) value

/-! ### Class M -/

def modifyZp (opcode zp : Byte) (result : Byte → State → Byte) (effect : Byte → State → State) (s : State) : State :=
  (s.fetch2 opcode zp).modifyTail (zpAddr zp) result effect

def modifyZpx (opcode zp : Byte) (result : Byte → State → Byte) (effect : Byte → State → State) (s : State) : State :=
  (s.headZpIndexed opcode zp).modifyTail (s.eaZpx zp) result effect

def modifyAbs (opcode : Byte) (addr : Word) (result : Byte → State → Byte) (effect : Byte → State → State)
    (s : State) : State :=
  (s.fetch3 opcode addr).modifyTail addr result effect

def modifyAbx (opcode : Byte) (addr : Word) (result : Byte → State → Byte) (effect : Byte → State → State)
    (s : State) : State :=
  (s.headAbsFixed opcode addr s.x).modifyTail (s.eaAbx addr) result effect

def modifyAby (opcode : Byte) (addr : Word) (result : Byte → State → Byte) (effect : Byte → State → State)
    (s : State) : State :=
  (s.headAbsFixed opcode addr s.y).modifyTail (s.eaAby addr) result effect

def modifyIzx (opcode zp : Byte) (result : Byte → State → Byte) (effect : Byte → State → State) (s : State) : State :=
  (s.headIzx opcode zp).modifyTail (s.eaIzx opcode zp) result effect

def modifyIzy (opcode zp : Byte) (result : Byte → State → Byte) (effect : Byte → State → State) (s : State) : State :=
  (s.headIzyFixed opcode zp).modifyTail (s.eaIzy opcode zp) result effect

/-! ### High-byte stores (R372) -/

def highAbx (opcode : Byte) (addr : Word) (reg : State → Byte) (effect : State → State) (s : State) : State :=
  (s.headAbsFixed opcode addr s.x).highStoreTail addr s.x reg effect

def highAby (opcode : Byte) (addr : Word) (reg : State → Byte) (effect : State → State) (s : State) : State :=
  (s.headAbsFixed opcode addr s.y).highStoreTail addr s.y reg effect

def highIzy (opcode zp : Byte) (reg : State → Byte) (effect : State → State) (s : State) : State :=
  (s.headIzyFixed opcode zp).highStoreTail (s.baseIzy opcode zp) s.y reg effect

/-! ### Branches (R362, R526) -/

/-- The target of a branch: the address after its two bytes plus the signed displacement (R526). -/
def branchTarget (s : State) (offset : Byte) : Word := s.pc + 2 + sext16 offset

/-- A conditional branch (R362): polls at the ends of cycles 1 and 3 (R321). -/
def branch (opcode offset : Byte) (cond : Flags → Bool) (s : State) : State :=
  let s2 := (s.opcodeCycle opcode).poll.fetchCycle offset
  let target := branchTarget s offset
  if cond s2.p then
    let s3 := s2.dummyPc
    if hiByte target = hiByte s2.pc then (s3.setPc target).endInstr
    else (((s3.setPc (mkWord (hiByte s2.pc) (loByte target))).poll.dummyPc).setPc target).endInstr
  else s2.endInstr

end Sys2Proof.Machine
end

