-- ==== Sys2Proof/Machine/Alu.lean ====
section
/-! DEFINITION. Arithmetic, logic, compares, shifts, increments, flag instructions and the documented NOP
(44_alu_flags.md). First each operation's effect, then one meaning per opcode. -/

namespace Sys2Proof.Machine

/-! ### Effects -/

/-- ADC: binary or decimal by D (R456). -/
def opAdc (m : Byte) (s : State) : State :=
  { s with a := (adcOut s.p s.a m).r, p := s.p.ofAlu (adcOut s.p s.a m) }

/-- SBC: binary or decimal by D (R457). -/
def opSbc (m : Byte) (s : State) : State :=
  { s with a := (sbcOut s.p s.a m).r, p := s.p.ofAlu (sbcOut s.p s.a m) }

/-- AND (R458). -/
def opAnd (m : Byte) (s : State) : State := { s with a := s.a &&& m }.setNZ (s.a &&& m)

/-- ORA (R459). -/
def opOra (m : Byte) (s : State) : State := { s with a := s.a ||| m }.setNZ (s.a ||| m)

/-- EOR (R460). -/
def opEor (m : Byte) (s : State) : State := { s with a := s.a ^^^ m }.setNZ (s.a ^^^ m)

/-- CMP: `compare(A, M)` (R461). -/
def opCmp (m : Byte) (s : State) : State := { s with p := s.p.compare s.a m }

/-- CPX: `compare(X, M)` (R462). -/
def opCpx (m : Byte) (s : State) : State := { s with p := s.p.compare s.x m }

/-- CPY: `compare(Y, M)` (R463). -/
def opCpy (m : Byte) (s : State) : State := { s with p := s.p.compare s.y m }

/-- BIT: N and V from the operand, Z from A and the operand (R464). -/
def opBit (m : Byte) (s : State) : State :=
  { s with p := { s.p with n := bit m 7, v := bit m 6, z := decide (s.a &&& m = 0) } }

/-- The byte INC writes (R465). -/
def incResult (m : Byte) (_ : State) : Byte := m + 1

/-- INC: N and Z of the result (R465). -/
def opInc (m : Byte) (s : State) : State := s.setNZ (m + 1)

/-- The byte DEC writes (R466). -/
def decResult (m : Byte) (_ : State) : Byte := m - 1

/-- DEC: N and Z of the result (R466). -/
def opDec (m : Byte) (s : State) : State := s.setNZ (m - 1)

/-- INX (R467). -/
def opInx (s : State) : State := { s with x := s.x + 1 }.setNZ (s.x + 1)

/-- INY (R468). -/
def opIny (s : State) : State := { s with y := s.y + 1 }.setNZ (s.y + 1)

/-- DEX (R469). -/
def opDex (s : State) : State := { s with x := s.x - 1 }.setNZ (s.x - 1)

/-- DEY (R470). -/
def opDey (s : State) : State := { s with y := s.y - 1 }.setNZ (s.y - 1)

/-- The byte ASL writes (R471). -/
def aslResult (m : Byte) (_ : State) : Byte := (shl m).1

/-- ASL: the flags (R471). -/
def opAsl (m : Byte) (s : State) : State := { s with p := s.p.shifted (shl m) }

/-- The byte LSR writes (R472). -/
def lsrResult (m : Byte) (_ : State) : Byte := (shr m).1

/-- LSR: the flags (R472). -/
def opLsr (m : Byte) (s : State) : State := { s with p := s.p.shifted (shr m) }

/-- The byte ROL writes: the old carry enters bit 0 (R473). -/
def rolResult (m : Byte) (s : State) : Byte := (rol m s.p.c).1

/-- ROL: the flags (R473). -/
def opRol (m : Byte) (s : State) : State := { s with p := s.p.shifted (rol m s.p.c) }

/-- The byte ROR writes: the old carry enters bit 7 (R474). -/
def rorResult (m : Byte) (s : State) : Byte := (ror m s.p.c).1

/-- ROR: the flags (R474). -/
def opRor (m : Byte) (s : State) : State := { s with p := s.p.shifted (ror m s.p.c) }

/-- CLC (R475). -/
def opClc (s : State) : State := { s with p := { s.p with c := false } }

/-- SEC (R476). -/
def opSec (s : State) : State := { s with p := { s.p with c := true } }

/-- CLI (R477). -/
def opCli (s : State) : State := { s with p := { s.p with i := false } }

/-- SEI (R478). -/
def opSei (s : State) : State := { s with p := { s.p with i := true } }

/-- CLD (R479). -/
def opCld (s : State) : State := { s with p := { s.p with d := false } }

/-- SED (R480). -/
def opSed (s : State) : State := { s with p := { s.p with d := true } }

/-- CLV (R481). -/
def opClv (s : State) : State := { s with p := { s.p with v := false } }

/-- NOP: no effect (R482). -/
def opNop (s : State) : State := s

/-! ### Meanings -/

/-- $61, ADC (zp,X) (R456, R360). -/
def execAdcIzx (zp8 : Byte) (s : State) : Host.Outcome State Fault Refusal := .next (readIzx 0x61 zp8 opAdc s)

/-- $65, ADC zp (R456, R354). -/
def execAdcZp (zp8 : Byte) (s : State) : Host.Outcome State Fault Refusal := .next (readZp 0x65 zp8 opAdc s)

/-- $69, ADC # (R456, R353). -/
def execAdcImm (imm8 : Byte) (s : State) : Host.Outcome State Fault Refusal := .next (immediate 0x69 imm8 opAdc s)

/-- $6D, ADC abs (R456, R357). -/
def execAdcAbs (addr16 : Word) (s : State) : Host.Outcome State Fault Refusal := .next (readAbs 0x6D addr16 opAdc s)

/-- $71, ADC (zp),Y (R456, R361). -/
def execAdcIzy (zp8 : Byte) (s : State) : Host.Outcome State Fault Refusal := .next (readIzy 0x71 zp8 opAdc s)

/-- $75, ADC zp,X (R456, R355). -/
def execAdcZpx (zp8 : Byte) (s : State) : Host.Outcome State Fault Refusal := .next (readZpx 0x75 zp8 opAdc s)

/-- $79, ADC abs,Y (R456, R359). -/
def execAdcAby (addr16 : Word) (s : State) : Host.Outcome State Fault Refusal := .next (readAby 0x79 addr16 opAdc s)

/-- $7D, ADC abs,X (R456, R358). -/
def execAdcAbx (addr16 : Word) (s : State) : Host.Outcome State Fault Refusal := .next (readAbx 0x7D addr16 opAdc s)

/-- $E1, SBC (zp,X) (R457, R360). -/
def execSbcIzx (zp8 : Byte) (s : State) : Host.Outcome State Fault Refusal := .next (readIzx 0xE1 zp8 opSbc s)

/-- $E5, SBC zp (R457, R354). -/
def execSbcZp (zp8 : Byte) (s : State) : Host.Outcome State Fault Refusal := .next (readZp 0xE5 zp8 opSbc s)

/-- $E9, SBC # (R457, R353). -/
def execSbcImm (imm8 : Byte) (s : State) : Host.Outcome State Fault Refusal := .next (immediate 0xE9 imm8 opSbc s)

/-- $ED, SBC abs (R457, R357). -/
def execSbcAbs (addr16 : Word) (s : State) : Host.Outcome State Fault Refusal := .next (readAbs 0xED addr16 opSbc s)

/-- $F1, SBC (zp),Y (R457, R361). -/
def execSbcIzy (zp8 : Byte) (s : State) : Host.Outcome State Fault Refusal := .next (readIzy 0xF1 zp8 opSbc s)

/-- $F5, SBC zp,X (R457, R355). -/
def execSbcZpx (zp8 : Byte) (s : State) : Host.Outcome State Fault Refusal := .next (readZpx 0xF5 zp8 opSbc s)

/-- $F9, SBC abs,Y (R457, R359). -/
def execSbcAby (addr16 : Word) (s : State) : Host.Outcome State Fault Refusal := .next (readAby 0xF9 addr16 opSbc s)

/-- $FD, SBC abs,X (R457, R358). -/
def execSbcAbx (addr16 : Word) (s : State) : Host.Outcome State Fault Refusal := .next (readAbx 0xFD addr16 opSbc s)

/-- $21, AND (zp,X) (R458, R360). -/
def execAndIzx (zp8 : Byte) (s : State) : Host.Outcome State Fault Refusal := .next (readIzx 0x21 zp8 opAnd s)

/-- $25, AND zp (R458, R354). -/
def execAndZp (zp8 : Byte) (s : State) : Host.Outcome State Fault Refusal := .next (readZp 0x25 zp8 opAnd s)

/-- $29, AND # (R458, R353). -/
def execAndImm (imm8 : Byte) (s : State) : Host.Outcome State Fault Refusal := .next (immediate 0x29 imm8 opAnd s)

/-- $2D, AND abs (R458, R357). -/
def execAndAbs (addr16 : Word) (s : State) : Host.Outcome State Fault Refusal := .next (readAbs 0x2D addr16 opAnd s)

/-- $31, AND (zp),Y (R458, R361). -/
def execAndIzy (zp8 : Byte) (s : State) : Host.Outcome State Fault Refusal := .next (readIzy 0x31 zp8 opAnd s)

/-- $35, AND zp,X (R458, R355). -/
def execAndZpx (zp8 : Byte) (s : State) : Host.Outcome State Fault Refusal := .next (readZpx 0x35 zp8 opAnd s)

/-- $39, AND abs,Y (R458, R359). -/
def execAndAby (addr16 : Word) (s : State) : Host.Outcome State Fault Refusal := .next (readAby 0x39 addr16 opAnd s)

/-- $3D, AND abs,X (R458, R358). -/
def execAndAbx (addr16 : Word) (s : State) : Host.Outcome State Fault Refusal := .next (readAbx 0x3D addr16 opAnd s)

/-- $01, ORA (zp,X) (R459, R360). -/
def execOraIzx (zp8 : Byte) (s : State) : Host.Outcome State Fault Refusal := .next (readIzx 0x01 zp8 opOra s)

/-- $05, ORA zp (R459, R354). -/
def execOraZp (zp8 : Byte) (s : State) : Host.Outcome State Fault Refusal := .next (readZp 0x05 zp8 opOra s)

/-- $09, ORA # (R459, R353). -/
def execOraImm (imm8 : Byte) (s : State) : Host.Outcome State Fault Refusal := .next (immediate 0x09 imm8 opOra s)

/-- $0D, ORA abs (R459, R357). -/
def execOraAbs (addr16 : Word) (s : State) : Host.Outcome State Fault Refusal := .next (readAbs 0x0D addr16 opOra s)

/-- $11, ORA (zp),Y (R459, R361). -/
def execOraIzy (zp8 : Byte) (s : State) : Host.Outcome State Fault Refusal := .next (readIzy 0x11 zp8 opOra s)

/-- $15, ORA zp,X (R459, R355). -/
def execOraZpx (zp8 : Byte) (s : State) : Host.Outcome State Fault Refusal := .next (readZpx 0x15 zp8 opOra s)

/-- $19, ORA abs,Y (R459, R359). -/
def execOraAby (addr16 : Word) (s : State) : Host.Outcome State Fault Refusal := .next (readAby 0x19 addr16 opOra s)

/-- $1D, ORA abs,X (R459, R358). -/
def execOraAbx (addr16 : Word) (s : State) : Host.Outcome State Fault Refusal := .next (readAbx 0x1D addr16 opOra s)

/-- $41, EOR (zp,X) (R460, R360). -/
def execEorIzx (zp8 : Byte) (s : State) : Host.Outcome State Fault Refusal := .next (readIzx 0x41 zp8 opEor s)

/-- $45, EOR zp (R460, R354). -/
def execEorZp (zp8 : Byte) (s : State) : Host.Outcome State Fault Refusal := .next (readZp 0x45 zp8 opEor s)

/-- $49, EOR # (R460, R353). -/
def execEorImm (imm8 : Byte) (s : State) : Host.Outcome State Fault Refusal := .next (immediate 0x49 imm8 opEor s)

/-- $4D, EOR abs (R460, R357). -/
def execEorAbs (addr16 : Word) (s : State) : Host.Outcome State Fault Refusal := .next (readAbs 0x4D addr16 opEor s)

/-- $51, EOR (zp),Y (R460, R361). -/
def execEorIzy (zp8 : Byte) (s : State) : Host.Outcome State Fault Refusal := .next (readIzy 0x51 zp8 opEor s)

/-- $55, EOR zp,X (R460, R355). -/
def execEorZpx (zp8 : Byte) (s : State) : Host.Outcome State Fault Refusal := .next (readZpx 0x55 zp8 opEor s)

/-- $59, EOR abs,Y (R460, R359). -/
def execEorAby (addr16 : Word) (s : State) : Host.Outcome State Fault Refusal := .next (readAby 0x59 addr16 opEor s)

/-- $5D, EOR abs,X (R460, R358). -/
def execEorAbx (addr16 : Word) (s : State) : Host.Outcome State Fault Refusal := .next (readAbx 0x5D addr16 opEor s)

/-- $C1, CMP (zp,X) (R461, R360). -/
def execCmpIzx (zp8 : Byte) (s : State) : Host.Outcome State Fault Refusal := .next (readIzx 0xC1 zp8 opCmp s)

/-- $C5, CMP zp (R461, R354). -/
def execCmpZp (zp8 : Byte) (s : State) : Host.Outcome State Fault Refusal := .next (readZp 0xC5 zp8 opCmp s)

/-- $C9, CMP # (R461, R353). -/
def execCmpImm (imm8 : Byte) (s : State) : Host.Outcome State Fault Refusal := .next (immediate 0xC9 imm8 opCmp s)

/-- $CD, CMP abs (R461, R357). -/
def execCmpAbs (addr16 : Word) (s : State) : Host.Outcome State Fault Refusal := .next (readAbs 0xCD addr16 opCmp s)

/-- $D1, CMP (zp),Y (R461, R361). -/
def execCmpIzy (zp8 : Byte) (s : State) : Host.Outcome State Fault Refusal := .next (readIzy 0xD1 zp8 opCmp s)

/-- $D5, CMP zp,X (R461, R355). -/
def execCmpZpx (zp8 : Byte) (s : State) : Host.Outcome State Fault Refusal := .next (readZpx 0xD5 zp8 opCmp s)

/-- $D9, CMP abs,Y (R461, R359). -/
def execCmpAby (addr16 : Word) (s : State) : Host.Outcome State Fault Refusal := .next (readAby 0xD9 addr16 opCmp s)

/-- $DD, CMP abs,X (R461, R358). -/
def execCmpAbx (addr16 : Word) (s : State) : Host.Outcome State Fault Refusal := .next (readAbx 0xDD addr16 opCmp s)

/-- $E0, CPX # (R462, R353). -/
def execCpxImm (imm8 : Byte) (s : State) : Host.Outcome State Fault Refusal := .next (immediate 0xE0 imm8 opCpx s)

/-- $E4, CPX zp (R462, R354). -/
def execCpxZp (zp8 : Byte) (s : State) : Host.Outcome State Fault Refusal := .next (readZp 0xE4 zp8 opCpx s)

/-- $EC, CPX abs (R462, R357). -/
def execCpxAbs (addr16 : Word) (s : State) : Host.Outcome State Fault Refusal := .next (readAbs 0xEC addr16 opCpx s)

/-- $C0, CPY # (R463, R353). -/
def execCpyImm (imm8 : Byte) (s : State) : Host.Outcome State Fault Refusal := .next (immediate 0xC0 imm8 opCpy s)

/-- $C4, CPY zp (R463, R354). -/
def execCpyZp (zp8 : Byte) (s : State) : Host.Outcome State Fault Refusal := .next (readZp 0xC4 zp8 opCpy s)

/-- $CC, CPY abs (R463, R357). -/
def execCpyAbs (addr16 : Word) (s : State) : Host.Outcome State Fault Refusal := .next (readAbs 0xCC addr16 opCpy s)

/-- $24, BIT zp (R464, R354). -/
def execBitZp (zp8 : Byte) (s : State) : Host.Outcome State Fault Refusal := .next (readZp 0x24 zp8 opBit s)

/-- $2C, BIT abs (R464, R357). -/
def execBitAbs (addr16 : Word) (s : State) : Host.Outcome State Fault Refusal := .next (readAbs 0x2C addr16 opBit s)

/-- $E6, INC zp (R465, R354). -/
def execIncZp (zp8 : Byte) (s : State) : Host.Outcome State Fault Refusal := .next (modifyZp 0xE6 zp8 incResult opInc s)

/-- $EE, INC abs (R465, R357). -/
def execIncAbs (addr16 : Word) (s : State) : Host.Outcome State Fault Refusal := .next (modifyAbs 0xEE addr16 incResult opInc s)

/-- $F6, INC zp,X (R465, R355). -/
def execIncZpx (zp8 : Byte) (s : State) : Host.Outcome State Fault Refusal := .next (modifyZpx 0xF6 zp8 incResult opInc s)

/-- $FE, INC abs,X (R465, R358). -/
def execIncAbx (addr16 : Word) (s : State) : Host.Outcome State Fault Refusal := .next (modifyAbx 0xFE addr16 incResult opInc s)

/-- $C6, DEC zp (R466, R354). -/
def execDecZp (zp8 : Byte) (s : State) : Host.Outcome State Fault Refusal := .next (modifyZp 0xC6 zp8 decResult opDec s)

/-- $CE, DEC abs (R466, R357). -/
def execDecAbs (addr16 : Word) (s : State) : Host.Outcome State Fault Refusal := .next (modifyAbs 0xCE addr16 decResult opDec s)

/-- $D6, DEC zp,X (R466, R355). -/
def execDecZpx (zp8 : Byte) (s : State) : Host.Outcome State Fault Refusal := .next (modifyZpx 0xD6 zp8 decResult opDec s)

/-- $DE, DEC abs,X (R466, R358). -/
def execDecAbx (addr16 : Word) (s : State) : Host.Outcome State Fault Refusal := .next (modifyAbx 0xDE addr16 decResult opDec s)

/-- $E8, INX impl (R467, R351). -/
def execInx (s : State) : Host.Outcome State Fault Refusal := .next (implied 0xE8 opInx s)

/-- $C8, INY impl (R468, R351). -/
def execIny (s : State) : Host.Outcome State Fault Refusal := .next (implied 0xC8 opIny s)

/-- $CA, DEX impl (R469, R351). -/
def execDex (s : State) : Host.Outcome State Fault Refusal := .next (implied 0xCA opDex s)

/-- $88, DEY impl (R470, R351). -/
def execDey (s : State) : Host.Outcome State Fault Refusal := .next (implied 0x88 opDey s)

/-- $06, ASL zp (R471, R354). -/
def execAslZp (zp8 : Byte) (s : State) : Host.Outcome State Fault Refusal := .next (modifyZp 0x06 zp8 aslResult opAsl s)

/-- $0A, ASL A (R471, R352). -/
def execAslAcc (s : State) : Host.Outcome State Fault Refusal := .next (accumulator 0x0A aslResult opAsl s)

/-- $0E, ASL abs (R471, R357). -/
def execAslAbs (addr16 : Word) (s : State) : Host.Outcome State Fault Refusal := .next (modifyAbs 0x0E addr16 aslResult opAsl s)

/-- $16, ASL zp,X (R471, R355). -/
def execAslZpx (zp8 : Byte) (s : State) : Host.Outcome State Fault Refusal := .next (modifyZpx 0x16 zp8 aslResult opAsl s)

/-- $1E, ASL abs,X (R471, R358). -/
def execAslAbx (addr16 : Word) (s : State) : Host.Outcome State Fault Refusal := .next (modifyAbx 0x1E addr16 aslResult opAsl s)

/-- $46, LSR zp (R472, R354). -/
def execLsrZp (zp8 : Byte) (s : State) : Host.Outcome State Fault Refusal := .next (modifyZp 0x46 zp8 lsrResult opLsr s)

/-- $4A, LSR A (R472, R352). -/
def execLsrAcc (s : State) : Host.Outcome State Fault Refusal := .next (accumulator 0x4A lsrResult opLsr s)

/-- $4E, LSR abs (R472, R357). -/
def execLsrAbs (addr16 : Word) (s : State) : Host.Outcome State Fault Refusal := .next (modifyAbs 0x4E addr16 lsrResult opLsr s)

/-- $56, LSR zp,X (R472, R355). -/
def execLsrZpx (zp8 : Byte) (s : State) : Host.Outcome State Fault Refusal := .next (modifyZpx 0x56 zp8 lsrResult opLsr s)

/-- $5E, LSR abs,X (R472, R358). -/
def execLsrAbx (addr16 : Word) (s : State) : Host.Outcome State Fault Refusal := .next (modifyAbx 0x5E addr16 lsrResult opLsr s)

/-- $26, ROL zp (R473, R354). -/
def execRolZp (zp8 : Byte) (s : State) : Host.Outcome State Fault Refusal := .next (modifyZp 0x26 zp8 rolResult opRol s)

/-- $2A, ROL A (R473, R352). -/
def execRolAcc (s : State) : Host.Outcome State Fault Refusal := .next (accumulator 0x2A rolResult opRol s)

/-- $2E, ROL abs (R473, R357). -/
def execRolAbs (addr16 : Word) (s : State) : Host.Outcome State Fault Refusal := .next (modifyAbs 0x2E addr16 rolResult opRol s)

/-- $36, ROL zp,X (R473, R355). -/
def execRolZpx (zp8 : Byte) (s : State) : Host.Outcome State Fault Refusal := .next (modifyZpx 0x36 zp8 rolResult opRol s)

/-- $3E, ROL abs,X (R473, R358). -/
def execRolAbx (addr16 : Word) (s : State) : Host.Outcome State Fault Refusal := .next (modifyAbx 0x3E addr16 rolResult opRol s)

/-- $66, ROR zp (R474, R354). -/
def execRorZp (zp8 : Byte) (s : State) : Host.Outcome State Fault Refusal := .next (modifyZp 0x66 zp8 rorResult opRor s)

/-- $6A, ROR A (R474, R352). -/
def execRorAcc (s : State) : Host.Outcome State Fault Refusal := .next (accumulator 0x6A rorResult opRor s)

/-- $6E, ROR abs (R474, R357). -/
def execRorAbs (addr16 : Word) (s : State) : Host.Outcome State Fault Refusal := .next (modifyAbs 0x6E addr16 rorResult opRor s)

/-- $76, ROR zp,X (R474, R355). -/
def execRorZpx (zp8 : Byte) (s : State) : Host.Outcome State Fault Refusal := .next (modifyZpx 0x76 zp8 rorResult opRor s)

/-- $7E, ROR abs,X (R474, R358). -/
def execRorAbx (addr16 : Word) (s : State) : Host.Outcome State Fault Refusal := .next (modifyAbx 0x7E addr16 rorResult opRor s)

/-- $18, CLC impl (R475, R351). -/
def execClc (s : State) : Host.Outcome State Fault Refusal := .next (implied 0x18 opClc s)

/-- $38, SEC impl (R476, R351). -/
def execSec (s : State) : Host.Outcome State Fault Refusal := .next (implied 0x38 opSec s)

/-- $58, CLI impl (R477, R351). -/
def execCli (s : State) : Host.Outcome State Fault Refusal := .next (implied 0x58 opCli s)

/-- $78, SEI impl (R478, R351). -/
def execSei (s : State) : Host.Outcome State Fault Refusal := .next (implied 0x78 opSei s)

/-- $D8, CLD impl (R479, R351). -/
def execCld (s : State) : Host.Outcome State Fault Refusal := .next (implied 0xD8 opCld s)

/-- $F8, SED impl (R480, R351). -/
def execSed (s : State) : Host.Outcome State Fault Refusal := .next (implied 0xF8 opSed s)

/-- $B8, CLV impl (R481, R351). -/
def execClv (s : State) : Host.Outcome State Fault Refusal := .next (implied 0xB8 opClv s)

/-- $EA, NOP impl (R482, R351). -/
def execNop (s : State) : Host.Outcome State Fault Refusal := .next (implied 0xEA opNop s)

end Sys2Proof.Machine
end

