-- ==== Sys2Proof/Machine/Control.lean ====
section
/-! DEFINITION. Control transfer (45_control.md): jumps, JSR, RTS, RTI, BRK and the branches. First the sequences and the
branch conditions, then one meaning per opcode. -/

namespace Sys2Proof.Machine

/-! ### Sequences -/

/-- JMP abs: three cycles (R520, R370). -/
def jmpAbsolute (opcode : Byte) (addr : Word) (s : State) : State :=
  let s2 := (s.fetch2 opcode (loByte addr)).poll
  ((s2.readCycleAs s2.pc (hiByte addr)).setPc addr).endInstr

/-- JMP (abs): five cycles; the pointer's high byte is read within the pointer's page (R521, R363, R108). -/
def jmpIndirect (opcode : Byte) (ptr : Word) (s : State) : State :=
  let s3 := s.fetch3 opcode ptr
  let s4 := (s3.readCycle ptr).poll
  ((s4.readCycle (nextInPage ptr)).setPc (mkWord (s4.busRead (nextInPage ptr)) (s3.busRead ptr))).endInstr

/-- The high operand byte JSR fetches in its cycle 6, in the state `t` after its two pushes: the byte `hi` of the
instruction, unless a push has just written where it stands (R522). -/
def jsrHigh (s t : State) (hi : Byte) : Byte :=
  if t.pc = stackAddr s.sp ∨ t.pc = stackAddr (s.sp - 1) then t.busRead t.pc else hi

/-- JSR, cycles 1 to 5: the address pushed is that of its last byte (R522, R366). -/
def State.headJsr (s : State) (opcode lo : Byte) : State :=
  let s3 := (s.fetch2 opcode lo).readCycle s.stackTop
  ((s3.pushCycle (hiByte s3.pc)).pushCycle (loByte s3.pc)).poll

/-- JSR: six cycles (R522, R366). -/
def jsr (opcode : Byte) (addr : Word) (s : State) : State :=
  let s5 := s.headJsr opcode (loByte addr)
  let hi := jsrHigh s s5 (hiByte addr)
  ((s5.readCycleAs s5.pc hi).setPc (mkWord hi (loByte addr))).endInstr

/-- RTS: six cycles; the last reads at the pulled address and increments PC past it (R523, R367). -/
def rts (opcode : Byte) (s : State) : State :=
  let s2 := (s.opcodeCycle opcode).dummyPc
  let s3 := (s2.readCycle s2.stackTop).incSp
  let s4 := (s3.readCycle s3.stackTop).incSp
  let s5 := ((s4.readCycle s4.stackTop).setPc (mkWord (s4.busRead s4.stackTop) (s3.busRead s3.stackTop))).poll
  s5.dummyPc.incPc.endInstr

/-- RTI: six cycles (R524, R368). -/
def rti (opcode : Byte) (s : State) : State := (s.opcodeCycle opcode).dummyPc.returnFromInterrupt

/-- BRK: seven cycles; the signature byte is fetched and skipped (R525, R369). -/
def breakSeq (opcode signature : Byte) (s : State) : State := (s.fetch2 opcode signature).enterInterrupt true

/-! ### Branch conditions -/

/-- BPL: N = 0 (R527). -/
def Flags.plus (f : Flags) : Bool := !f.n

/-- BMI: N = 1 (R528). -/
def Flags.minus (f : Flags) : Bool := f.n

/-- BVC: V = 0 (R529). -/
def Flags.overflowClear (f : Flags) : Bool := !f.v

/-- BVS: V = 1 (R530). -/
def Flags.overflowSet (f : Flags) : Bool := f.v

/-- BCC: C = 0 (R531). -/
def Flags.carryClear (f : Flags) : Bool := !f.c

/-- BCS: C = 1 (R532). -/
def Flags.carrySet (f : Flags) : Bool := f.c

/-- BNE: Z = 0 (R533). -/
def Flags.notEqual (f : Flags) : Bool := !f.z

/-- BEQ: Z = 1 (R534). -/
def Flags.equal (f : Flags) : Bool := f.z

/-! ### Meanings -/

/-- $4C, JMP abs (R520, R370). -/
def execJmpAbs (addr16 : Word) (s : State) : Host.Outcome State Fault Refusal := .next (jmpAbsolute 0x4C addr16 s)

/-- $6C, JMP (abs) (R521, R363). -/
def execJmpInd (addr16 : Word) (s : State) : Host.Outcome State Fault Refusal := .next (jmpIndirect 0x6C addr16 s)

/-- $20, JSR abs (R522, R366). -/
def execJsrAbs (addr16 : Word) (s : State) : Host.Outcome State Fault Refusal := .next (jsr 0x20 addr16 s)

/-- $60, RTS impl (R523, R367). -/
def execRts (s : State) : Host.Outcome State Fault Refusal := .next (rts 0x60 s)

/-- $40, RTI impl (R524, R368). -/
def execRti (s : State) : Host.Outcome State Fault Refusal := .next (rti 0x40 s)

/-- $00, BRK impl (R525, R369). -/
def execBrk (signature : Byte) (s : State) : Host.Outcome State Fault Refusal := .next (breakSeq 0x00 signature s)

/-- $10, BPL rel (R527, R362). -/
def execBpl (rel8 : Byte) (s : State) : Host.Outcome State Fault Refusal := .next (branch 0x10 rel8 Flags.plus s)

/-- $30, BMI rel (R528, R362). -/
def execBmi (rel8 : Byte) (s : State) : Host.Outcome State Fault Refusal := .next (branch 0x30 rel8 Flags.minus s)

/-- $50, BVC rel (R529, R362). -/
def execBvc (rel8 : Byte) (s : State) : Host.Outcome State Fault Refusal := .next (branch 0x50 rel8 Flags.overflowClear s)

/-- $70, BVS rel (R530, R362). -/
def execBvs (rel8 : Byte) (s : State) : Host.Outcome State Fault Refusal := .next (branch 0x70 rel8 Flags.overflowSet s)

/-- $90, BCC rel (R531, R362). -/
def execBcc (rel8 : Byte) (s : State) : Host.Outcome State Fault Refusal := .next (branch 0x90 rel8 Flags.carryClear s)

/-- $B0, BCS rel (R532, R362). -/
def execBcs (rel8 : Byte) (s : State) : Host.Outcome State Fault Refusal := .next (branch 0xB0 rel8 Flags.carrySet s)

/-- $D0, BNE rel (R533, R362). -/
def execBne (rel8 : Byte) (s : State) : Host.Outcome State Fault Refusal := .next (branch 0xD0 rel8 Flags.notEqual s)

/-- $F0, BEQ rel (R534, R362). -/
def execBeq (rel8 : Byte) (s : State) : Host.Outcome State Fault Refusal := .next (branch 0xF0 rel8 Flags.equal s)

end Sys2Proof.Machine
end

