-- ==== Sys2Proof/Machine/LoadStore.lean ====
section
/-! DEFINITION. Load, store, transfer and stack instructions (43_load_store_transfer.md). First each operation's effect,
then the push and pull sequences, then one meaning per opcode. -/

namespace Sys2Proof.Machine

/-! ### Effects -/

/-- LDA: `A <- M; setNZ(A)` (R401). -/
def opLda (m : Byte) (s : State) : State := { s with a := m }.setNZ m

/-- LDX: `X <- M; setNZ(X)` (R402). -/
def opLdx (m : Byte) (s : State) : State := { s with x := m }.setNZ m

/-- LDY: `Y <- M; setNZ(Y)` (R403). -/
def opLdy (m : Byte) (s : State) : State := { s with y := m }.setNZ m

/-- The value STA writes (R404). -/
def storeA (s : State) : Byte := s.a

/-- The value STX writes (R405). -/
def storeX (s : State) : Byte := s.x

/-- The value STY writes (R406). -/
def storeY (s : State) : Byte := s.y

/-- TAX (R407). -/
def opTax (s : State) : State := { s with x := s.a }.setNZ s.a

/-- TAY (R408). -/
def opTay (s : State) : State := { s with y := s.a }.setNZ s.a

/-- TXA (R409). -/
def opTxa (s : State) : State := { s with a := s.x }.setNZ s.x

/-- TYA (R410). -/
def opTya (s : State) : State := { s with a := s.y }.setNZ s.y

/-- TSX (R411). -/
def opTsx (s : State) : State := { s with x := s.sp }.setNZ s.sp

/-- TXS: no flag (R412). -/
def opTxs (s : State) : State := { s with sp := s.x }

/-- The byte PHA pushes (R413). -/
def pushedA (s : State) : Byte := s.a

/-- The byte PHP pushes: bits 5 and 4 as 1 (R414). -/
def pushedP (s : State) : Byte := s.p.pack true

/-- PLA: `A <- Pull(); setNZ(A)` (R415). -/
def opPla (v : Byte) (s : State) : State := { s with a := v }.setNZ v

/-- PLP: the six flags of the pulled byte (R416). -/
def opPlp (v : Byte) (s : State) : State := { s with p := Flags.unpack v }

/-! ### The push and pull sequences -/

/-- PHA and PHP: three cycles (R364). -/
def push (opcode : Byte) (value : State → Byte) (s : State) : State :=
  ((s.opcodeCycle opcode).dummyPc.poll.pushCycle (value s)).endInstr

/-- PLA and PLP: four cycles, SP incremented after the dummy read of the stack (R365). -/
def pull (opcode : Byte) (effect : Byte → State → State) (s : State) : State :=
  let s2 := (s.opcodeCycle opcode).dummyPc
  let s3 := (s2.readCycle s2.stackTop).incSp.poll
  (effect (s3.busRead s3.stackTop) (s3.readCycle s3.stackTop)).endInstr

/-! ### Meanings -/

/-- $A1, LDA (zp,X) (R401, R360). -/
def execLdaIzx (zp8 : Byte) (s : State) : Host.Outcome State Fault Refusal := .next (readIzx 0xA1 zp8 opLda s)

/-- $A5, LDA zp (R401, R354). -/
def execLdaZp (zp8 : Byte) (s : State) : Host.Outcome State Fault Refusal := .next (readZp 0xA5 zp8 opLda s)

/-- $A9, LDA # (R401, R353). -/
def execLdaImm (imm8 : Byte) (s : State) : Host.Outcome State Fault Refusal := .next (immediate 0xA9 imm8 opLda s)

/-- $AD, LDA abs (R401, R357). -/
def execLdaAbs (addr16 : Word) (s : State) : Host.Outcome State Fault Refusal := .next (readAbs 0xAD addr16 opLda s)

/-- $B1, LDA (zp),Y (R401, R361). -/
def execLdaIzy (zp8 : Byte) (s : State) : Host.Outcome State Fault Refusal := .next (readIzy 0xB1 zp8 opLda s)

/-- $B5, LDA zp,X (R401, R355). -/
def execLdaZpx (zp8 : Byte) (s : State) : Host.Outcome State Fault Refusal := .next (readZpx 0xB5 zp8 opLda s)

/-- $B9, LDA abs,Y (R401, R359). -/
def execLdaAby (addr16 : Word) (s : State) : Host.Outcome State Fault Refusal := .next (readAby 0xB9 addr16 opLda s)

/-- $BD, LDA abs,X (R401, R358). -/
def execLdaAbx (addr16 : Word) (s : State) : Host.Outcome State Fault Refusal := .next (readAbx 0xBD addr16 opLda s)

/-- $A2, LDX # (R402, R353). -/
def execLdxImm (imm8 : Byte) (s : State) : Host.Outcome State Fault Refusal := .next (immediate 0xA2 imm8 opLdx s)

/-- $A6, LDX zp (R402, R354). -/
def execLdxZp (zp8 : Byte) (s : State) : Host.Outcome State Fault Refusal := .next (readZp 0xA6 zp8 opLdx s)

/-- $AE, LDX abs (R402, R357). -/
def execLdxAbs (addr16 : Word) (s : State) : Host.Outcome State Fault Refusal := .next (readAbs 0xAE addr16 opLdx s)

/-- $B6, LDX zp,Y (R402, R356). -/
def execLdxZpy (zp8 : Byte) (s : State) : Host.Outcome State Fault Refusal := .next (readZpy 0xB6 zp8 opLdx s)

/-- $BE, LDX abs,Y (R402, R359). -/
def execLdxAby (addr16 : Word) (s : State) : Host.Outcome State Fault Refusal := .next (readAby 0xBE addr16 opLdx s)

/-- $A0, LDY # (R403, R353). -/
def execLdyImm (imm8 : Byte) (s : State) : Host.Outcome State Fault Refusal := .next (immediate 0xA0 imm8 opLdy s)

/-- $A4, LDY zp (R403, R354). -/
def execLdyZp (zp8 : Byte) (s : State) : Host.Outcome State Fault Refusal := .next (readZp 0xA4 zp8 opLdy s)

/-- $AC, LDY abs (R403, R357). -/
def execLdyAbs (addr16 : Word) (s : State) : Host.Outcome State Fault Refusal := .next (readAbs 0xAC addr16 opLdy s)

/-- $B4, LDY zp,X (R403, R355). -/
def execLdyZpx (zp8 : Byte) (s : State) : Host.Outcome State Fault Refusal := .next (readZpx 0xB4 zp8 opLdy s)

/-- $BC, LDY abs,X (R403, R358). -/
def execLdyAbx (addr16 : Word) (s : State) : Host.Outcome State Fault Refusal := .next (readAbx 0xBC addr16 opLdy s)

/-- $81, STA (zp,X) (R404, R360). -/
def execStaIzx (zp8 : Byte) (s : State) : Host.Outcome State Fault Refusal := .next (writeIzx 0x81 zp8 storeA s)

/-- $85, STA zp (R404, R354). -/
def execStaZp (zp8 : Byte) (s : State) : Host.Outcome State Fault Refusal := .next (writeZp 0x85 zp8 storeA s)

/-- $8D, STA abs (R404, R357). -/
def execStaAbs (addr16 : Word) (s : State) : Host.Outcome State Fault Refusal := .next (writeAbs 0x8D addr16 storeA s)

/-- $91, STA (zp),Y (R404, R361). -/
def execStaIzy (zp8 : Byte) (s : State) : Host.Outcome State Fault Refusal := .next (writeIzy 0x91 zp8 storeA s)

/-- $95, STA zp,X (R404, R355). -/
def execStaZpx (zp8 : Byte) (s : State) : Host.Outcome State Fault Refusal := .next (writeZpx 0x95 zp8 storeA s)

/-- $99, STA abs,Y (R404, R359). -/
def execStaAby (addr16 : Word) (s : State) : Host.Outcome State Fault Refusal := .next (writeAby 0x99 addr16 storeA s)

/-- $9D, STA abs,X (R404, R358). -/
def execStaAbx (addr16 : Word) (s : State) : Host.Outcome State Fault Refusal := .next (writeAbx 0x9D addr16 storeA s)

/-- $86, STX zp (R405, R354). -/
def execStxZp (zp8 : Byte) (s : State) : Host.Outcome State Fault Refusal := .next (writeZp 0x86 zp8 storeX s)

/-- $8E, STX abs (R405, R357). -/
def execStxAbs (addr16 : Word) (s : State) : Host.Outcome State Fault Refusal := .next (writeAbs 0x8E addr16 storeX s)

/-- $96, STX zp,Y (R405, R356). -/
def execStxZpy (zp8 : Byte) (s : State) : Host.Outcome State Fault Refusal := .next (writeZpy 0x96 zp8 storeX s)

/-- $84, STY zp (R406, R354). -/
def execStyZp (zp8 : Byte) (s : State) : Host.Outcome State Fault Refusal := .next (writeZp 0x84 zp8 storeY s)

/-- $8C, STY abs (R406, R357). -/
def execStyAbs (addr16 : Word) (s : State) : Host.Outcome State Fault Refusal := .next (writeAbs 0x8C addr16 storeY s)

/-- $94, STY zp,X (R406, R355). -/
def execStyZpx (zp8 : Byte) (s : State) : Host.Outcome State Fault Refusal := .next (writeZpx 0x94 zp8 storeY s)

/-- $AA, TAX impl (R407, R351). -/
def execTax (s : State) : Host.Outcome State Fault Refusal := .next (implied 0xAA opTax s)

/-- $A8, TAY impl (R408, R351). -/
def execTay (s : State) : Host.Outcome State Fault Refusal := .next (implied 0xA8 opTay s)

/-- $8A, TXA impl (R409, R351). -/
def execTxa (s : State) : Host.Outcome State Fault Refusal := .next (implied 0x8A opTxa s)

/-- $98, TYA impl (R410, R351). -/
def execTya (s : State) : Host.Outcome State Fault Refusal := .next (implied 0x98 opTya s)

/-- $BA, TSX impl (R411, R351). -/
def execTsx (s : State) : Host.Outcome State Fault Refusal := .next (implied 0xBA opTsx s)

/-- $9A, TXS impl (R412, R351). -/
def execTxs (s : State) : Host.Outcome State Fault Refusal := .next (implied 0x9A opTxs s)

/-- $48, PHA impl (R413, R364). -/
def execPha (s : State) : Host.Outcome State Fault Refusal := .next (push 0x48 pushedA s)

/-- $08, PHP impl (R414, R364). -/
def execPhp (s : State) : Host.Outcome State Fault Refusal := .next (push 0x08 pushedP s)

/-- $68, PLA impl (R415, R365). -/
def execPla (s : State) : Host.Outcome State Fault Refusal := .next (pull 0x68 opPla s)

/-- $28, PLP impl (R416, R365). -/
def execPlp (s : State) : Host.Outcome State Fault Refusal := .next (pull 0x28 opPlp s)

end Sys2Proof.Machine
end

