-- ==== Sys2Proof/Machine/Undocumented.lean ====
section
/-! DEFINITION. The undocumented opcodes (46_undocumented.md). First each operation's effect, then one meaning per
opcode. The combined read-modify-write operations write the byte ASL, ROL, LSR, ROR, DEC or INC writes. -/

namespace Sys2Proof.Machine

/-! ### Effects -/

/-- SLO: `(r, C) <- shl(M); A <- A | r; setNZ(A)` (R601). -/
def opSlo (m : Byte) (s : State) : State := opOra (shl m).1 { s with p := { s.p with c := (shl m).2 } }

/-- RLA: `(r, C) <- rol(M, C); A <- A & r; setNZ(A)` (R602). -/
def opRla (m : Byte) (s : State) : State := opAnd (rol m s.p.c).1 { s with p := { s.p with c := (rol m s.p.c).2 } }

/-- SRE: `(r, C) <- shr(M); A <- A ^ r; setNZ(A)` (R603). -/
def opSre (m : Byte) (s : State) : State := opEor (shr m).1 { s with p := { s.p with c := (shr m).2 } }

/-- RRA: `(r, C) <- ror(M, C)`, then ADC of r with that C (R604). -/
def opRra (m : Byte) (s : State) : State := opAdc (ror m s.p.c).1 { s with p := { s.p with c := (ror m s.p.c).2 } }

/-- DCP: compare A with the decremented byte (R607). -/
def opDcp (m : Byte) (s : State) : State := opCmp (m - 1) s

/-- ISC: SBC of the incremented byte (R608). -/
def opIsc (m : Byte) (s : State) : State := opSbc (m + 1) s

/-- The value SAX writes: A & X (R605). -/
def storeSax (s : State) : Byte := s.a &&& s.x

/-- LAX: A and X from M (R606). -/
def opLax (m : Byte) (s : State) : State := { s with a := m, x := m }.setNZ m

/-- ANC: AND, then C from N (R609). -/
def opAnc (m : Byte) (s : State) : State :=
  let r := s.a &&& m
  { s with a := r, p := { s.p.setNZ r with c := bit r 7 } }

/-- ALR: AND, then shift right (R610). -/
def opAlr (m : Byte) (s : State) : State :=
  let o := shr (s.a &&& m)
  { s with a := o.1, p := s.p.shifted o }

/-- ARR in binary mode (R611): the result and the flags, from the carry `c` and `t`, A & M. -/
def arrBin (t : Byte) (c : Bool) : AluOut :=
  let r := (t >>> 1) ||| (carryByte c <<< 7)
  { r := r, n := bit r 7, z := decide (r = 0), c := bit r 6, v := bit r 6 ^^ bit r 5 }

/-- The low-digit fix-up of ARR in decimal mode (R611). -/
def arrFixLow (t r : Byte) : Byte :=
  if (t &&& 0x0F).toNat + (t &&& 0x01).toNat > 0x05 then (r &&& 0xF0) ||| ((r + 0x06) &&& 0x0F) else r

/-- Whether ARR in decimal mode fixes the high digit, which is also its carry (R611). -/
def arrHigh (t : Byte) : Bool := decide ((t &&& 0xF0).toNat + (t &&& 0x10).toNat > 0x50)

/-- ARR in decimal mode (R611): N is the carry before the instruction; N and Z are those of r before the fix-ups. -/
def arrDec (t : Byte) (c : Bool) : AluOut :=
  let r := (t >>> 1) ||| (carryByte c <<< 7)
  let r1 := arrFixLow t r
  { r := if arrHigh t then (r1 &&& 0x0F) ||| ((r1 + 0x60) &&& 0xF0) else r1
    n := c, z := decide (r = 0), v := bit (r ^^^ t) 6, c := arrHigh t }

/-- The result of ARR, binary or decimal by D (R611). -/
def arrOut (f : Flags) (t : Byte) : AluOut := if f.d then arrDec t f.c else arrBin t f.c

/-- ARR: AND, then rotate right with special flags (R611). -/
def opArr (m : Byte) (s : State) : State :=
  { s with a := (arrOut s.p (s.a &&& m)).r, p := s.p.ofAlu (arrOut s.p (s.a &&& m)) }

/-- ANE: `A <- (A | ANE_MAGIC) & X & M; setNZ(A)` (R612). -/
def opAne (m : Byte) (s : State) : State :=
  let r := (s.a ||| Config.aneMagic) &&& s.x &&& m
  { s with a := r }.setNZ r

/-- LXA: `A <- X <- (A | LXA_MAGIC) & M; setNZ(A)` (R613). -/
def opLxa (m : Byte) (s : State) : State :=
  let r := (s.a ||| Config.lxaMagic) &&& m
  { s with a := r, x := r }.setNZ r

/-- SBX: `X <- (A & X) - M`, with the flags of that compare (R614). -/
def opSbx (m : Byte) (s : State) : State :=
  { s with x := (s.a &&& s.x) - m, p := s.p.compare (s.a &&& s.x) m }

/-- USBC: SBC (R615). -/
def opUsbc (m : Byte) (s : State) : State := opSbc m s

/-- The register SHA stores: A & X (R617). -/
def regSha (s : State) : Byte := s.a &&& s.x

/-- The register SHX stores (R618). -/
def regShx (s : State) : Byte := s.x

/-- The register SHY stores (R619). -/
def regShy (s : State) : Byte := s.y

/-- The register TAS stores: the SP it sets, A & X (R620). -/
def regTas (s : State) : Byte := s.a &&& s.x

/-- SHA, SHX and SHY have no effect beside their store (R617 to R619). -/
def opStored (s : State) : State := s

/-- TAS: `SP <- A & X` (R620). -/
def opTas (s : State) : State := { s with sp := s.a &&& s.x }

/-- LAS: A, X and SP from M & SP (R621). -/
def opLas (m : Byte) (s : State) : State :=
  let r := m &&& s.sp
  { s with a := r, x := r, sp := r }.setNZ r

/-- The undocumented NOPs discard the byte they read (R622). -/
def opNopRead (_ : Byte) (s : State) : State := s

/-- JAM: the fetch, and the processor is locked (R623, R371). -/
def jam (opcode : Byte) (s : State) : State := (s.opcodeCycle opcode).enterJam opcode

/-! ### Meanings -/

/-- $03, SLO (zp,X) (R601, R360). -/
def execSloIzx (zp8 : Byte) (s : State) : Host.Outcome State Fault Refusal := .next (modifyIzx 0x03 zp8 aslResult opSlo s)

/-- $07, SLO zp (R601, R354). -/
def execSloZp (zp8 : Byte) (s : State) : Host.Outcome State Fault Refusal := .next (modifyZp 0x07 zp8 aslResult opSlo s)

/-- $0F, SLO abs (R601, R357). -/
def execSloAbs (addr16 : Word) (s : State) : Host.Outcome State Fault Refusal := .next (modifyAbs 0x0F addr16 aslResult opSlo s)

/-- $13, SLO (zp),Y (R601, R361). -/
def execSloIzy (zp8 : Byte) (s : State) : Host.Outcome State Fault Refusal := .next (modifyIzy 0x13 zp8 aslResult opSlo s)

/-- $17, SLO zp,X (R601, R355). -/
def execSloZpx (zp8 : Byte) (s : State) : Host.Outcome State Fault Refusal := .next (modifyZpx 0x17 zp8 aslResult opSlo s)

/-- $1B, SLO abs,Y (R601, R359). -/
def execSloAby (addr16 : Word) (s : State) : Host.Outcome State Fault Refusal := .next (modifyAby 0x1B addr16 aslResult opSlo s)

/-- $1F, SLO abs,X (R601, R358). -/
def execSloAbx (addr16 : Word) (s : State) : Host.Outcome State Fault Refusal := .next (modifyAbx 0x1F addr16 aslResult opSlo s)

/-- $23, RLA (zp,X) (R602, R360). -/
def execRlaIzx (zp8 : Byte) (s : State) : Host.Outcome State Fault Refusal := .next (modifyIzx 0x23 zp8 rolResult opRla s)

/-- $27, RLA zp (R602, R354). -/
def execRlaZp (zp8 : Byte) (s : State) : Host.Outcome State Fault Refusal := .next (modifyZp 0x27 zp8 rolResult opRla s)

/-- $2F, RLA abs (R602, R357). -/
def execRlaAbs (addr16 : Word) (s : State) : Host.Outcome State Fault Refusal := .next (modifyAbs 0x2F addr16 rolResult opRla s)

/-- $33, RLA (zp),Y (R602, R361). -/
def execRlaIzy (zp8 : Byte) (s : State) : Host.Outcome State Fault Refusal := .next (modifyIzy 0x33 zp8 rolResult opRla s)

/-- $37, RLA zp,X (R602, R355). -/
def execRlaZpx (zp8 : Byte) (s : State) : Host.Outcome State Fault Refusal := .next (modifyZpx 0x37 zp8 rolResult opRla s)

/-- $3B, RLA abs,Y (R602, R359). -/
def execRlaAby (addr16 : Word) (s : State) : Host.Outcome State Fault Refusal := .next (modifyAby 0x3B addr16 rolResult opRla s)

/-- $3F, RLA abs,X (R602, R358). -/
def execRlaAbx (addr16 : Word) (s : State) : Host.Outcome State Fault Refusal := .next (modifyAbx 0x3F addr16 rolResult opRla s)

/-- $43, SRE (zp,X) (R603, R360). -/
def execSreIzx (zp8 : Byte) (s : State) : Host.Outcome State Fault Refusal := .next (modifyIzx 0x43 zp8 lsrResult opSre s)

/-- $47, SRE zp (R603, R354). -/
def execSreZp (zp8 : Byte) (s : State) : Host.Outcome State Fault Refusal := .next (modifyZp 0x47 zp8 lsrResult opSre s)

/-- $4F, SRE abs (R603, R357). -/
def execSreAbs (addr16 : Word) (s : State) : Host.Outcome State Fault Refusal := .next (modifyAbs 0x4F addr16 lsrResult opSre s)

/-- $53, SRE (zp),Y (R603, R361). -/
def execSreIzy (zp8 : Byte) (s : State) : Host.Outcome State Fault Refusal := .next (modifyIzy 0x53 zp8 lsrResult opSre s)

/-- $57, SRE zp,X (R603, R355). -/
def execSreZpx (zp8 : Byte) (s : State) : Host.Outcome State Fault Refusal := .next (modifyZpx 0x57 zp8 lsrResult opSre s)

/-- $5B, SRE abs,Y (R603, R359). -/
def execSreAby (addr16 : Word) (s : State) : Host.Outcome State Fault Refusal := .next (modifyAby 0x5B addr16 lsrResult opSre s)

/-- $5F, SRE abs,X (R603, R358). -/
def execSreAbx (addr16 : Word) (s : State) : Host.Outcome State Fault Refusal := .next (modifyAbx 0x5F addr16 lsrResult opSre s)

/-- $63, RRA (zp,X) (R604, R360). -/
def execRraIzx (zp8 : Byte) (s : State) : Host.Outcome State Fault Refusal := .next (modifyIzx 0x63 zp8 rorResult opRra s)

/-- $67, RRA zp (R604, R354). -/
def execRraZp (zp8 : Byte) (s : State) : Host.Outcome State Fault Refusal := .next (modifyZp 0x67 zp8 rorResult opRra s)

/-- $6F, RRA abs (R604, R357). -/
def execRraAbs (addr16 : Word) (s : State) : Host.Outcome State Fault Refusal := .next (modifyAbs 0x6F addr16 rorResult opRra s)

/-- $73, RRA (zp),Y (R604, R361). -/
def execRraIzy (zp8 : Byte) (s : State) : Host.Outcome State Fault Refusal := .next (modifyIzy 0x73 zp8 rorResult opRra s)

/-- $77, RRA zp,X (R604, R355). -/
def execRraZpx (zp8 : Byte) (s : State) : Host.Outcome State Fault Refusal := .next (modifyZpx 0x77 zp8 rorResult opRra s)

/-- $7B, RRA abs,Y (R604, R359). -/
def execRraAby (addr16 : Word) (s : State) : Host.Outcome State Fault Refusal := .next (modifyAby 0x7B addr16 rorResult opRra s)

/-- $7F, RRA abs,X (R604, R358). -/
def execRraAbx (addr16 : Word) (s : State) : Host.Outcome State Fault Refusal := .next (modifyAbx 0x7F addr16 rorResult opRra s)

/-- $83, SAX (zp,X) (R605, R360). -/
def execSaxIzx (zp8 : Byte) (s : State) : Host.Outcome State Fault Refusal := .next (writeIzx 0x83 zp8 storeSax s)

/-- $87, SAX zp (R605, R354). -/
def execSaxZp (zp8 : Byte) (s : State) : Host.Outcome State Fault Refusal := .next (writeZp 0x87 zp8 storeSax s)

/-- $8F, SAX abs (R605, R357). -/
def execSaxAbs (addr16 : Word) (s : State) : Host.Outcome State Fault Refusal := .next (writeAbs 0x8F addr16 storeSax s)

/-- $97, SAX zp,Y (R605, R356). -/
def execSaxZpy (zp8 : Byte) (s : State) : Host.Outcome State Fault Refusal := .next (writeZpy 0x97 zp8 storeSax s)

/-- $A3, LAX (zp,X) (R606, R360). -/
def execLaxIzx (zp8 : Byte) (s : State) : Host.Outcome State Fault Refusal := .next (readIzx 0xA3 zp8 opLax s)

/-- $A7, LAX zp (R606, R354). -/
def execLaxZp (zp8 : Byte) (s : State) : Host.Outcome State Fault Refusal := .next (readZp 0xA7 zp8 opLax s)

/-- $AF, LAX abs (R606, R357). -/
def execLaxAbs (addr16 : Word) (s : State) : Host.Outcome State Fault Refusal := .next (readAbs 0xAF addr16 opLax s)

/-- $B3, LAX (zp),Y (R606, R361). -/
def execLaxIzy (zp8 : Byte) (s : State) : Host.Outcome State Fault Refusal := .next (readIzy 0xB3 zp8 opLax s)

/-- $B7, LAX zp,Y (R606, R356). -/
def execLaxZpy (zp8 : Byte) (s : State) : Host.Outcome State Fault Refusal := .next (readZpy 0xB7 zp8 opLax s)

/-- $BF, LAX abs,Y (R606, R359). -/
def execLaxAby (addr16 : Word) (s : State) : Host.Outcome State Fault Refusal := .next (readAby 0xBF addr16 opLax s)

/-- $C3, DCP (zp,X) (R607, R360). -/
def execDcpIzx (zp8 : Byte) (s : State) : Host.Outcome State Fault Refusal := .next (modifyIzx 0xC3 zp8 decResult opDcp s)

/-- $C7, DCP zp (R607, R354). -/
def execDcpZp (zp8 : Byte) (s : State) : Host.Outcome State Fault Refusal := .next (modifyZp 0xC7 zp8 decResult opDcp s)

/-- $CF, DCP abs (R607, R357). -/
def execDcpAbs (addr16 : Word) (s : State) : Host.Outcome State Fault Refusal := .next (modifyAbs 0xCF addr16 decResult opDcp s)

/-- $D3, DCP (zp),Y (R607, R361). -/
def execDcpIzy (zp8 : Byte) (s : State) : Host.Outcome State Fault Refusal := .next (modifyIzy 0xD3 zp8 decResult opDcp s)

/-- $D7, DCP zp,X (R607, R355). -/
def execDcpZpx (zp8 : Byte) (s : State) : Host.Outcome State Fault Refusal := .next (modifyZpx 0xD7 zp8 decResult opDcp s)

/-- $DB, DCP abs,Y (R607, R359). -/
def execDcpAby (addr16 : Word) (s : State) : Host.Outcome State Fault Refusal := .next (modifyAby 0xDB addr16 decResult opDcp s)

/-- $DF, DCP abs,X (R607, R358). -/
def execDcpAbx (addr16 : Word) (s : State) : Host.Outcome State Fault Refusal := .next (modifyAbx 0xDF addr16 decResult opDcp s)

/-- $E3, ISC (zp,X) (R608, R360). -/
def execIscIzx (zp8 : Byte) (s : State) : Host.Outcome State Fault Refusal := .next (modifyIzx 0xE3 zp8 incResult opIsc s)

/-- $E7, ISC zp (R608, R354). -/
def execIscZp (zp8 : Byte) (s : State) : Host.Outcome State Fault Refusal := .next (modifyZp 0xE7 zp8 incResult opIsc s)

/-- $EF, ISC abs (R608, R357). -/
def execIscAbs (addr16 : Word) (s : State) : Host.Outcome State Fault Refusal := .next (modifyAbs 0xEF addr16 incResult opIsc s)

/-- $F3, ISC (zp),Y (R608, R361). -/
def execIscIzy (zp8 : Byte) (s : State) : Host.Outcome State Fault Refusal := .next (modifyIzy 0xF3 zp8 incResult opIsc s)

/-- $F7, ISC zp,X (R608, R355). -/
def execIscZpx (zp8 : Byte) (s : State) : Host.Outcome State Fault Refusal := .next (modifyZpx 0xF7 zp8 incResult opIsc s)

/-- $FB, ISC abs,Y (R608, R359). -/
def execIscAby (addr16 : Word) (s : State) : Host.Outcome State Fault Refusal := .next (modifyAby 0xFB addr16 incResult opIsc s)

/-- $FF, ISC abs,X (R608, R358). -/
def execIscAbx (addr16 : Word) (s : State) : Host.Outcome State Fault Refusal := .next (modifyAbx 0xFF addr16 incResult opIsc s)

/-- $0B, ANC # (R609, R353). -/
def execAncImm0B (imm8 : Byte) (s : State) : Host.Outcome State Fault Refusal := .next (immediate 0x0B imm8 opAnc s)

/-- $2B, ANC # (R609, R353). -/
def execAncImm2B (imm8 : Byte) (s : State) : Host.Outcome State Fault Refusal := .next (immediate 0x2B imm8 opAnc s)

/-- $4B, ALR # (R610, R353). -/
def execAlrImm (imm8 : Byte) (s : State) : Host.Outcome State Fault Refusal := .next (immediate 0x4B imm8 opAlr s)

/-- $6B, ARR # (R611, R353). -/
def execArrImm (imm8 : Byte) (s : State) : Host.Outcome State Fault Refusal := .next (immediate 0x6B imm8 opArr s)

/-- $8B, ANE # (R612, R353). -/
def execAneImm (imm8 : Byte) (s : State) : Host.Outcome State Fault Refusal := .next (immediate 0x8B imm8 opAne s)

/-- $AB, LXA # (R613, R353). -/
def execLxaImm (imm8 : Byte) (s : State) : Host.Outcome State Fault Refusal := .next (immediate 0xAB imm8 opLxa s)

/-- $CB, SBX # (R614, R353). -/
def execSbxImm (imm8 : Byte) (s : State) : Host.Outcome State Fault Refusal := .next (immediate 0xCB imm8 opSbx s)

/-- $EB, USBC # (R615, R353). -/
def execUsbcImm (imm8 : Byte) (s : State) : Host.Outcome State Fault Refusal := .next (immediate 0xEB imm8 opUsbc s)

/-- $93, SHA (zp),Y (R617, R361, R372). -/
def execShaIzy (zp8 : Byte) (s : State) : Host.Outcome State Fault Refusal := .next (highIzy 0x93 zp8 regSha opStored s)

/-- $9F, SHA abs,Y (R617, R359, R372). -/
def execShaAby (addr16 : Word) (s : State) : Host.Outcome State Fault Refusal := .next (highAby 0x9F addr16 regSha opStored s)

/-- $9E, SHX abs,Y (R618, R359, R372). -/
def execShxAby (addr16 : Word) (s : State) : Host.Outcome State Fault Refusal := .next (highAby 0x9E addr16 regShx opStored s)

/-- $9C, SHY abs,X (R619, R358, R372). -/
def execShyAbx (addr16 : Word) (s : State) : Host.Outcome State Fault Refusal := .next (highAbx 0x9C addr16 regShy opStored s)

/-- $9B, TAS abs,Y (R620, R359, R372). -/
def execTasAby (addr16 : Word) (s : State) : Host.Outcome State Fault Refusal := .next (highAby 0x9B addr16 regTas opTas s)

/-- $BB, LAS abs,Y (R621, R359). -/
def execLasAby (addr16 : Word) (s : State) : Host.Outcome State Fault Refusal := .next (readAby 0xBB addr16 opLas s)

/-- $04, NOP zp (R622, R354). -/
def execNopZp04 (zp8 : Byte) (s : State) : Host.Outcome State Fault Refusal := .next (readZp 0x04 zp8 opNopRead s)

/-- $0C, NOP abs (R622, R357). -/
def execNopAbs (addr16 : Word) (s : State) : Host.Outcome State Fault Refusal := .next (readAbs 0x0C addr16 opNopRead s)

/-- $14, NOP zp,X (R622, R355). -/
def execNopZpx14 (zp8 : Byte) (s : State) : Host.Outcome State Fault Refusal := .next (readZpx 0x14 zp8 opNopRead s)

/-- $1A, NOP impl (R622, R351). -/
def execNop1A (s : State) : Host.Outcome State Fault Refusal := .next (implied 0x1A opNop s)

/-- $1C, NOP abs,X (R622, R358). -/
def execNopAbx1C (addr16 : Word) (s : State) : Host.Outcome State Fault Refusal := .next (readAbx 0x1C addr16 opNopRead s)

/-- $34, NOP zp,X (R622, R355). -/
def execNopZpx34 (zp8 : Byte) (s : State) : Host.Outcome State Fault Refusal := .next (readZpx 0x34 zp8 opNopRead s)

/-- $3A, NOP impl (R622, R351). -/
def execNop3A (s : State) : Host.Outcome State Fault Refusal := .next (implied 0x3A opNop s)

/-- $3C, NOP abs,X (R622, R358). -/
def execNopAbx3C (addr16 : Word) (s : State) : Host.Outcome State Fault Refusal := .next (readAbx 0x3C addr16 opNopRead s)

/-- $44, NOP zp (R622, R354). -/
def execNopZp44 (zp8 : Byte) (s : State) : Host.Outcome State Fault Refusal := .next (readZp 0x44 zp8 opNopRead s)

/-- $54, NOP zp,X (R622, R355). -/
def execNopZpx54 (zp8 : Byte) (s : State) : Host.Outcome State Fault Refusal := .next (readZpx 0x54 zp8 opNopRead s)

/-- $5A, NOP impl (R622, R351). -/
def execNop5A (s : State) : Host.Outcome State Fault Refusal := .next (implied 0x5A opNop s)

/-- $5C, NOP abs,X (R622, R358). -/
def execNopAbx5C (addr16 : Word) (s : State) : Host.Outcome State Fault Refusal := .next (readAbx 0x5C addr16 opNopRead s)

/-- $64, NOP zp (R622, R354). -/
def execNopZp64 (zp8 : Byte) (s : State) : Host.Outcome State Fault Refusal := .next (readZp 0x64 zp8 opNopRead s)

/-- $74, NOP zp,X (R622, R355). -/
def execNopZpx74 (zp8 : Byte) (s : State) : Host.Outcome State Fault Refusal := .next (readZpx 0x74 zp8 opNopRead s)

/-- $7A, NOP impl (R622, R351). -/
def execNop7A (s : State) : Host.Outcome State Fault Refusal := .next (implied 0x7A opNop s)

/-- $7C, NOP abs,X (R622, R358). -/
def execNopAbx7C (addr16 : Word) (s : State) : Host.Outcome State Fault Refusal := .next (readAbx 0x7C addr16 opNopRead s)

/-- $80, NOP # (R622, R353). -/
def execNopImm80 (imm8 : Byte) (s : State) : Host.Outcome State Fault Refusal := .next (immediate 0x80 imm8 opNopRead s)

/-- $82, NOP # (R622, R353). -/
def execNopImm82 (imm8 : Byte) (s : State) : Host.Outcome State Fault Refusal := .next (immediate 0x82 imm8 opNopRead s)

/-- $89, NOP # (R622, R353). -/
def execNopImm89 (imm8 : Byte) (s : State) : Host.Outcome State Fault Refusal := .next (immediate 0x89 imm8 opNopRead s)

/-- $C2, NOP # (R622, R353). -/
def execNopImmC2 (imm8 : Byte) (s : State) : Host.Outcome State Fault Refusal := .next (immediate 0xC2 imm8 opNopRead s)

/-- $D4, NOP zp,X (R622, R355). -/
def execNopZpxD4 (zp8 : Byte) (s : State) : Host.Outcome State Fault Refusal := .next (readZpx 0xD4 zp8 opNopRead s)

/-- $DA, NOP impl (R622, R351). -/
def execNopDA (s : State) : Host.Outcome State Fault Refusal := .next (implied 0xDA opNop s)

/-- $DC, NOP abs,X (R622, R358). -/
def execNopAbxDC (addr16 : Word) (s : State) : Host.Outcome State Fault Refusal := .next (readAbx 0xDC addr16 opNopRead s)

/-- $E2, NOP # (R622, R353). -/
def execNopImmE2 (imm8 : Byte) (s : State) : Host.Outcome State Fault Refusal := .next (immediate 0xE2 imm8 opNopRead s)

/-- $F4, NOP zp,X (R622, R355). -/
def execNopZpxF4 (zp8 : Byte) (s : State) : Host.Outcome State Fault Refusal := .next (readZpx 0xF4 zp8 opNopRead s)

/-- $FA, NOP impl (R622, R351). -/
def execNopFA (s : State) : Host.Outcome State Fault Refusal := .next (implied 0xFA opNop s)

/-- $FC, NOP abs,X (R622, R358). -/
def execNopAbxFC (addr16 : Word) (s : State) : Host.Outcome State Fault Refusal := .next (readAbx 0xFC addr16 opNopRead s)

/-- $02, JAM impl (R623, R371). -/
def execJam02 (s : State) : Host.Outcome State Fault Refusal := .next (jam 0x02 s)

/-- $12, JAM impl (R623, R371). -/
def execJam12 (s : State) : Host.Outcome State Fault Refusal := .next (jam 0x12 s)

/-- $22, JAM impl (R623, R371). -/
def execJam22 (s : State) : Host.Outcome State Fault Refusal := .next (jam 0x22 s)

/-- $32, JAM impl (R623, R371). -/
def execJam32 (s : State) : Host.Outcome State Fault Refusal := .next (jam 0x32 s)

/-- $42, JAM impl (R623, R371). -/
def execJam42 (s : State) : Host.Outcome State Fault Refusal := .next (jam 0x42 s)

/-- $52, JAM impl (R623, R371). -/
def execJam52 (s : State) : Host.Outcome State Fault Refusal := .next (jam 0x52 s)

/-- $62, JAM impl (R623, R371). -/
def execJam62 (s : State) : Host.Outcome State Fault Refusal := .next (jam 0x62 s)

/-- $72, JAM impl (R623, R371). -/
def execJam72 (s : State) : Host.Outcome State Fault Refusal := .next (jam 0x72 s)

/-- $92, JAM impl (R623, R371). -/
def execJam92 (s : State) : Host.Outcome State Fault Refusal := .next (jam 0x92 s)

/-- $B2, JAM impl (R623, R371). -/
def execJamB2 (s : State) : Host.Outcome State Fault Refusal := .next (jam 0xB2 s)

/-- $D2, JAM impl (R623, R371). -/
def execJamD2 (s : State) : Host.Outcome State Fault Refusal := .next (jam 0xD2 s)

/-- $F2, JAM impl (R623, R371). -/
def execJamF2 (s : State) : Host.Outcome State Fault Refusal := .next (jam 0xF2 s)

end Sys2Proof.Machine
end

