-- ==== Sys2Proof/Machine/Dispatch.lean ====
section
/-! DEFINITION. exec: the meaning of each instruction, one arm per constructor (R306). -/

namespace Sys2Proof.Machine

def exec (i : Instr) (s : State) : Host.Outcome State Fault Refusal :=
  match i with
  | .brk signature => Sys2Proof.Machine.execBrk signature s
  | .oraIzx zp8 => Sys2Proof.Machine.execOraIzx zp8 s
  | .jam02 => Sys2Proof.Machine.execJam02 s
  | .sloIzx zp8 => Sys2Proof.Machine.execSloIzx zp8 s
  | .nopZp04 zp8 => Sys2Proof.Machine.execNopZp04 zp8 s
  | .oraZp zp8 => Sys2Proof.Machine.execOraZp zp8 s
  | .aslZp zp8 => Sys2Proof.Machine.execAslZp zp8 s
  | .sloZp zp8 => Sys2Proof.Machine.execSloZp zp8 s
  | .php => Sys2Proof.Machine.execPhp s
  | .oraImm imm8 => Sys2Proof.Machine.execOraImm imm8 s
  | .aslAcc => Sys2Proof.Machine.execAslAcc s
  | .ancImm0B imm8 => Sys2Proof.Machine.execAncImm0B imm8 s
  | .nopAbs addr16 => Sys2Proof.Machine.execNopAbs addr16 s
  | .oraAbs addr16 => Sys2Proof.Machine.execOraAbs addr16 s
  | .aslAbs addr16 => Sys2Proof.Machine.execAslAbs addr16 s
  | .sloAbs addr16 => Sys2Proof.Machine.execSloAbs addr16 s
  | .bpl rel8 => Sys2Proof.Machine.execBpl rel8 s
  | .oraIzy zp8 => Sys2Proof.Machine.execOraIzy zp8 s
  | .jam12 => Sys2Proof.Machine.execJam12 s
  | .sloIzy zp8 => Sys2Proof.Machine.execSloIzy zp8 s
  | .nopZpx14 zp8 => Sys2Proof.Machine.execNopZpx14 zp8 s
  | .oraZpx zp8 => Sys2Proof.Machine.execOraZpx zp8 s
  | .aslZpx zp8 => Sys2Proof.Machine.execAslZpx zp8 s
  | .sloZpx zp8 => Sys2Proof.Machine.execSloZpx zp8 s
  | .clc => Sys2Proof.Machine.execClc s
  | .oraAby addr16 => Sys2Proof.Machine.execOraAby addr16 s
  | .nop1A => Sys2Proof.Machine.execNop1A s
  | .sloAby addr16 => Sys2Proof.Machine.execSloAby addr16 s
  | .nopAbx1C addr16 => Sys2Proof.Machine.execNopAbx1C addr16 s
  | .oraAbx addr16 => Sys2Proof.Machine.execOraAbx addr16 s
  | .aslAbx addr16 => Sys2Proof.Machine.execAslAbx addr16 s
  | .sloAbx addr16 => Sys2Proof.Machine.execSloAbx addr16 s
  | .jsrAbs addr16 => Sys2Proof.Machine.execJsrAbs addr16 s
  | .andIzx zp8 => Sys2Proof.Machine.execAndIzx zp8 s
  | .jam22 => Sys2Proof.Machine.execJam22 s
  | .rlaIzx zp8 => Sys2Proof.Machine.execRlaIzx zp8 s
  | .bitZp zp8 => Sys2Proof.Machine.execBitZp zp8 s
  | .andZp zp8 => Sys2Proof.Machine.execAndZp zp8 s
  | .rolZp zp8 => Sys2Proof.Machine.execRolZp zp8 s
  | .rlaZp zp8 => Sys2Proof.Machine.execRlaZp zp8 s
  | .plp => Sys2Proof.Machine.execPlp s
  | .andImm imm8 => Sys2Proof.Machine.execAndImm imm8 s
  | .rolAcc => Sys2Proof.Machine.execRolAcc s
  | .ancImm2B imm8 => Sys2Proof.Machine.execAncImm2B imm8 s
  | .bitAbs addr16 => Sys2Proof.Machine.execBitAbs addr16 s
  | .andAbs addr16 => Sys2Proof.Machine.execAndAbs addr16 s
  | .rolAbs addr16 => Sys2Proof.Machine.execRolAbs addr16 s
  | .rlaAbs addr16 => Sys2Proof.Machine.execRlaAbs addr16 s
  | .bmi rel8 => Sys2Proof.Machine.execBmi rel8 s
  | .andIzy zp8 => Sys2Proof.Machine.execAndIzy zp8 s
  | .jam32 => Sys2Proof.Machine.execJam32 s
  | .rlaIzy zp8 => Sys2Proof.Machine.execRlaIzy zp8 s
  | .nopZpx34 zp8 => Sys2Proof.Machine.execNopZpx34 zp8 s
  | .andZpx zp8 => Sys2Proof.Machine.execAndZpx zp8 s
  | .rolZpx zp8 => Sys2Proof.Machine.execRolZpx zp8 s
  | .rlaZpx zp8 => Sys2Proof.Machine.execRlaZpx zp8 s
  | .sec => Sys2Proof.Machine.execSec s
  | .andAby addr16 => Sys2Proof.Machine.execAndAby addr16 s
  | .nop3A => Sys2Proof.Machine.execNop3A s
  | .rlaAby addr16 => Sys2Proof.Machine.execRlaAby addr16 s
  | .nopAbx3C addr16 => Sys2Proof.Machine.execNopAbx3C addr16 s
  | .andAbx addr16 => Sys2Proof.Machine.execAndAbx addr16 s
  | .rolAbx addr16 => Sys2Proof.Machine.execRolAbx addr16 s
  | .rlaAbx addr16 => Sys2Proof.Machine.execRlaAbx addr16 s
  | .rti => Sys2Proof.Machine.execRti s
  | .eorIzx zp8 => Sys2Proof.Machine.execEorIzx zp8 s
  | .jam42 => Sys2Proof.Machine.execJam42 s
  | .sreIzx zp8 => Sys2Proof.Machine.execSreIzx zp8 s
  | .nopZp44 zp8 => Sys2Proof.Machine.execNopZp44 zp8 s
  | .eorZp zp8 => Sys2Proof.Machine.execEorZp zp8 s
  | .lsrZp zp8 => Sys2Proof.Machine.execLsrZp zp8 s
  | .sreZp zp8 => Sys2Proof.Machine.execSreZp zp8 s
  | .pha => Sys2Proof.Machine.execPha s
  | .eorImm imm8 => Sys2Proof.Machine.execEorImm imm8 s
  | .lsrAcc => Sys2Proof.Machine.execLsrAcc s
  | .alrImm imm8 => Sys2Proof.Machine.execAlrImm imm8 s
  | .jmpAbs addr16 => Sys2Proof.Machine.execJmpAbs addr16 s
  | .eorAbs addr16 => Sys2Proof.Machine.execEorAbs addr16 s
  | .lsrAbs addr16 => Sys2Proof.Machine.execLsrAbs addr16 s
  | .sreAbs addr16 => Sys2Proof.Machine.execSreAbs addr16 s
  | .bvc rel8 => Sys2Proof.Machine.execBvc rel8 s
  | .eorIzy zp8 => Sys2Proof.Machine.execEorIzy zp8 s
  | .jam52 => Sys2Proof.Machine.execJam52 s
  | .sreIzy zp8 => Sys2Proof.Machine.execSreIzy zp8 s
  | .nopZpx54 zp8 => Sys2Proof.Machine.execNopZpx54 zp8 s
  | .eorZpx zp8 => Sys2Proof.Machine.execEorZpx zp8 s
  | .lsrZpx zp8 => Sys2Proof.Machine.execLsrZpx zp8 s
  | .sreZpx zp8 => Sys2Proof.Machine.execSreZpx zp8 s
  | .cli => Sys2Proof.Machine.execCli s
  | .eorAby addr16 => Sys2Proof.Machine.execEorAby addr16 s
  | .nop5A => Sys2Proof.Machine.execNop5A s
  | .sreAby addr16 => Sys2Proof.Machine.execSreAby addr16 s
  | .nopAbx5C addr16 => Sys2Proof.Machine.execNopAbx5C addr16 s
  | .eorAbx addr16 => Sys2Proof.Machine.execEorAbx addr16 s
  | .lsrAbx addr16 => Sys2Proof.Machine.execLsrAbx addr16 s
  | .sreAbx addr16 => Sys2Proof.Machine.execSreAbx addr16 s
  | .rts => Sys2Proof.Machine.execRts s
  | .adcIzx zp8 => Sys2Proof.Machine.execAdcIzx zp8 s
  | .jam62 => Sys2Proof.Machine.execJam62 s
  | .rraIzx zp8 => Sys2Proof.Machine.execRraIzx zp8 s
  | .nopZp64 zp8 => Sys2Proof.Machine.execNopZp64 zp8 s
  | .adcZp zp8 => Sys2Proof.Machine.execAdcZp zp8 s
  | .rorZp zp8 => Sys2Proof.Machine.execRorZp zp8 s
  | .rraZp zp8 => Sys2Proof.Machine.execRraZp zp8 s
  | .pla => Sys2Proof.Machine.execPla s
  | .adcImm imm8 => Sys2Proof.Machine.execAdcImm imm8 s
  | .rorAcc => Sys2Proof.Machine.execRorAcc s
  | .arrImm imm8 => Sys2Proof.Machine.execArrImm imm8 s
  | .jmpInd addr16 => Sys2Proof.Machine.execJmpInd addr16 s
  | .adcAbs addr16 => Sys2Proof.Machine.execAdcAbs addr16 s
  | .rorAbs addr16 => Sys2Proof.Machine.execRorAbs addr16 s
  | .rraAbs addr16 => Sys2Proof.Machine.execRraAbs addr16 s
  | .bvs rel8 => Sys2Proof.Machine.execBvs rel8 s
  | .adcIzy zp8 => Sys2Proof.Machine.execAdcIzy zp8 s
  | .jam72 => Sys2Proof.Machine.execJam72 s
  | .rraIzy zp8 => Sys2Proof.Machine.execRraIzy zp8 s
  | .nopZpx74 zp8 => Sys2Proof.Machine.execNopZpx74 zp8 s
  | .adcZpx zp8 => Sys2Proof.Machine.execAdcZpx zp8 s
  | .rorZpx zp8 => Sys2Proof.Machine.execRorZpx zp8 s
  | .rraZpx zp8 => Sys2Proof.Machine.execRraZpx zp8 s
  | .sei => Sys2Proof.Machine.execSei s
  | .adcAby addr16 => Sys2Proof.Machine.execAdcAby addr16 s
  | .nop7A => Sys2Proof.Machine.execNop7A s
  | .rraAby addr16 => Sys2Proof.Machine.execRraAby addr16 s
  | .nopAbx7C addr16 => Sys2Proof.Machine.execNopAbx7C addr16 s
  | .adcAbx addr16 => Sys2Proof.Machine.execAdcAbx addr16 s
  | .rorAbx addr16 => Sys2Proof.Machine.execRorAbx addr16 s
  | .rraAbx addr16 => Sys2Proof.Machine.execRraAbx addr16 s
  | .nopImm80 imm8 => Sys2Proof.Machine.execNopImm80 imm8 s
  | .staIzx zp8 => Sys2Proof.Machine.execStaIzx zp8 s
  | .nopImm82 imm8 => Sys2Proof.Machine.execNopImm82 imm8 s
  | .saxIzx zp8 => Sys2Proof.Machine.execSaxIzx zp8 s
  | .styZp zp8 => Sys2Proof.Machine.execStyZp zp8 s
  | .staZp zp8 => Sys2Proof.Machine.execStaZp zp8 s
  | .stxZp zp8 => Sys2Proof.Machine.execStxZp zp8 s
  | .saxZp zp8 => Sys2Proof.Machine.execSaxZp zp8 s
  | .dey => Sys2Proof.Machine.execDey s
  | .nopImm89 imm8 => Sys2Proof.Machine.execNopImm89 imm8 s
  | .txa => Sys2Proof.Machine.execTxa s
  | .aneImm imm8 => Sys2Proof.Machine.execAneImm imm8 s
  | .styAbs addr16 => Sys2Proof.Machine.execStyAbs addr16 s
  | .staAbs addr16 => Sys2Proof.Machine.execStaAbs addr16 s
  | .stxAbs addr16 => Sys2Proof.Machine.execStxAbs addr16 s
  | .saxAbs addr16 => Sys2Proof.Machine.execSaxAbs addr16 s
  | .bcc rel8 => Sys2Proof.Machine.execBcc rel8 s
  | .staIzy zp8 => Sys2Proof.Machine.execStaIzy zp8 s
  | .jam92 => Sys2Proof.Machine.execJam92 s
  | .shaIzy zp8 => Sys2Proof.Machine.execShaIzy zp8 s
  | .styZpx zp8 => Sys2Proof.Machine.execStyZpx zp8 s
  | .staZpx zp8 => Sys2Proof.Machine.execStaZpx zp8 s
  | .stxZpy zp8 => Sys2Proof.Machine.execStxZpy zp8 s
  | .saxZpy zp8 => Sys2Proof.Machine.execSaxZpy zp8 s
  | .tya => Sys2Proof.Machine.execTya s
  | .staAby addr16 => Sys2Proof.Machine.execStaAby addr16 s
  | .txs => Sys2Proof.Machine.execTxs s
  | .tasAby addr16 => Sys2Proof.Machine.execTasAby addr16 s
  | .shyAbx addr16 => Sys2Proof.Machine.execShyAbx addr16 s
  | .staAbx addr16 => Sys2Proof.Machine.execStaAbx addr16 s
  | .shxAby addr16 => Sys2Proof.Machine.execShxAby addr16 s
  | .shaAby addr16 => Sys2Proof.Machine.execShaAby addr16 s
  | .ldyImm imm8 => Sys2Proof.Machine.execLdyImm imm8 s
  | .ldaIzx zp8 => Sys2Proof.Machine.execLdaIzx zp8 s
  | .ldxImm imm8 => Sys2Proof.Machine.execLdxImm imm8 s
  | .laxIzx zp8 => Sys2Proof.Machine.execLaxIzx zp8 s
  | .ldyZp zp8 => Sys2Proof.Machine.execLdyZp zp8 s
  | .ldaZp zp8 => Sys2Proof.Machine.execLdaZp zp8 s
  | .ldxZp zp8 => Sys2Proof.Machine.execLdxZp zp8 s
  | .laxZp zp8 => Sys2Proof.Machine.execLaxZp zp8 s
  | .tay => Sys2Proof.Machine.execTay s
  | .ldaImm imm8 => Sys2Proof.Machine.execLdaImm imm8 s
  | .tax => Sys2Proof.Machine.execTax s
  | .lxaImm imm8 => Sys2Proof.Machine.execLxaImm imm8 s
  | .ldyAbs addr16 => Sys2Proof.Machine.execLdyAbs addr16 s
  | .ldaAbs addr16 => Sys2Proof.Machine.execLdaAbs addr16 s
  | .ldxAbs addr16 => Sys2Proof.Machine.execLdxAbs addr16 s
  | .laxAbs addr16 => Sys2Proof.Machine.execLaxAbs addr16 s
  | .bcs rel8 => Sys2Proof.Machine.execBcs rel8 s
  | .ldaIzy zp8 => Sys2Proof.Machine.execLdaIzy zp8 s
  | .jamB2 => Sys2Proof.Machine.execJamB2 s
  | .laxIzy zp8 => Sys2Proof.Machine.execLaxIzy zp8 s
  | .ldyZpx zp8 => Sys2Proof.Machine.execLdyZpx zp8 s
  | .ldaZpx zp8 => Sys2Proof.Machine.execLdaZpx zp8 s
  | .ldxZpy zp8 => Sys2Proof.Machine.execLdxZpy zp8 s
  | .laxZpy zp8 => Sys2Proof.Machine.execLaxZpy zp8 s
  | .clv => Sys2Proof.Machine.execClv s
  | .ldaAby addr16 => Sys2Proof.Machine.execLdaAby addr16 s
  | .tsx => Sys2Proof.Machine.execTsx s
  | .lasAby addr16 => Sys2Proof.Machine.execLasAby addr16 s
  | .ldyAbx addr16 => Sys2Proof.Machine.execLdyAbx addr16 s
  | .ldaAbx addr16 => Sys2Proof.Machine.execLdaAbx addr16 s
  | .ldxAby addr16 => Sys2Proof.Machine.execLdxAby addr16 s
  | .laxAby addr16 => Sys2Proof.Machine.execLaxAby addr16 s
  | .cpyImm imm8 => Sys2Proof.Machine.execCpyImm imm8 s
  | .cmpIzx zp8 => Sys2Proof.Machine.execCmpIzx zp8 s
  | .nopImmC2 imm8 => Sys2Proof.Machine.execNopImmC2 imm8 s
  | .dcpIzx zp8 => Sys2Proof.Machine.execDcpIzx zp8 s
  | .cpyZp zp8 => Sys2Proof.Machine.execCpyZp zp8 s
  | .cmpZp zp8 => Sys2Proof.Machine.execCmpZp zp8 s
  | .decZp zp8 => Sys2Proof.Machine.execDecZp zp8 s
  | .dcpZp zp8 => Sys2Proof.Machine.execDcpZp zp8 s
  | .iny => Sys2Proof.Machine.execIny s
  | .cmpImm imm8 => Sys2Proof.Machine.execCmpImm imm8 s
  | .dex => Sys2Proof.Machine.execDex s
  | .sbxImm imm8 => Sys2Proof.Machine.execSbxImm imm8 s
  | .cpyAbs addr16 => Sys2Proof.Machine.execCpyAbs addr16 s
  | .cmpAbs addr16 => Sys2Proof.Machine.execCmpAbs addr16 s
  | .decAbs addr16 => Sys2Proof.Machine.execDecAbs addr16 s
  | .dcpAbs addr16 => Sys2Proof.Machine.execDcpAbs addr16 s
  | .bne rel8 => Sys2Proof.Machine.execBne rel8 s
  | .cmpIzy zp8 => Sys2Proof.Machine.execCmpIzy zp8 s
  | .jamD2 => Sys2Proof.Machine.execJamD2 s
  | .dcpIzy zp8 => Sys2Proof.Machine.execDcpIzy zp8 s
  | .nopZpxD4 zp8 => Sys2Proof.Machine.execNopZpxD4 zp8 s
  | .cmpZpx zp8 => Sys2Proof.Machine.execCmpZpx zp8 s
  | .decZpx zp8 => Sys2Proof.Machine.execDecZpx zp8 s
  | .dcpZpx zp8 => Sys2Proof.Machine.execDcpZpx zp8 s
  | .cld => Sys2Proof.Machine.execCld s
  | .cmpAby addr16 => Sys2Proof.Machine.execCmpAby addr16 s
  | .nopDA => Sys2Proof.Machine.execNopDA s
  | .dcpAby addr16 => Sys2Proof.Machine.execDcpAby addr16 s
  | .nopAbxDC addr16 => Sys2Proof.Machine.execNopAbxDC addr16 s
  | .cmpAbx addr16 => Sys2Proof.Machine.execCmpAbx addr16 s
  | .decAbx addr16 => Sys2Proof.Machine.execDecAbx addr16 s
  | .dcpAbx addr16 => Sys2Proof.Machine.execDcpAbx addr16 s
  | .cpxImm imm8 => Sys2Proof.Machine.execCpxImm imm8 s
  | .sbcIzx zp8 => Sys2Proof.Machine.execSbcIzx zp8 s
  | .nopImmE2 imm8 => Sys2Proof.Machine.execNopImmE2 imm8 s
  | .iscIzx zp8 => Sys2Proof.Machine.execIscIzx zp8 s
  | .cpxZp zp8 => Sys2Proof.Machine.execCpxZp zp8 s
  | .sbcZp zp8 => Sys2Proof.Machine.execSbcZp zp8 s
  | .incZp zp8 => Sys2Proof.Machine.execIncZp zp8 s
  | .iscZp zp8 => Sys2Proof.Machine.execIscZp zp8 s
  | .inx => Sys2Proof.Machine.execInx s
  | .sbcImm imm8 => Sys2Proof.Machine.execSbcImm imm8 s
  | .nop => Sys2Proof.Machine.execNop s
  | .usbcImm imm8 => Sys2Proof.Machine.execUsbcImm imm8 s
  | .cpxAbs addr16 => Sys2Proof.Machine.execCpxAbs addr16 s
  | .sbcAbs addr16 => Sys2Proof.Machine.execSbcAbs addr16 s
  | .incAbs addr16 => Sys2Proof.Machine.execIncAbs addr16 s
  | .iscAbs addr16 => Sys2Proof.Machine.execIscAbs addr16 s
  | .beq rel8 => Sys2Proof.Machine.execBeq rel8 s
  | .sbcIzy zp8 => Sys2Proof.Machine.execSbcIzy zp8 s
  | .jamF2 => Sys2Proof.Machine.execJamF2 s
  | .iscIzy zp8 => Sys2Proof.Machine.execIscIzy zp8 s
  | .nopZpxF4 zp8 => Sys2Proof.Machine.execNopZpxF4 zp8 s
  | .sbcZpx zp8 => Sys2Proof.Machine.execSbcZpx zp8 s
  | .incZpx zp8 => Sys2Proof.Machine.execIncZpx zp8 s
  | .iscZpx zp8 => Sys2Proof.Machine.execIscZpx zp8 s
  | .sed => Sys2Proof.Machine.execSed s
  | .sbcAby addr16 => Sys2Proof.Machine.execSbcAby addr16 s
  | .nopFA => Sys2Proof.Machine.execNopFA s
  | .iscAby addr16 => Sys2Proof.Machine.execIscAby addr16 s
  | .nopAbxFC addr16 => Sys2Proof.Machine.execNopAbxFC addr16 s
  | .sbcAbx addr16 => Sys2Proof.Machine.execSbcAbx addr16 s
  | .incAbx addr16 => Sys2Proof.Machine.execIncAbx addr16 s
  | .iscAbx addr16 => Sys2Proof.Machine.execIscAbx addr16 s

end Sys2Proof.Machine
end

