-- ==== Sys2Proof/Machine/Micro.lean ====
section
/-! DEFINITION. `step()` of the spec, one micro-cycle at a time (41_sequencer.md R300 to R315): the dispatch table (R306),
the rows of the sequence tables (42_addressing_modes.md R351 to R374) over the scratch registers, and `microStep`. The
operations and the bus cycles are those of the instructions' meanings; only the cutting into cycles is this file's. -/

namespace Sys2Proof.Machine

/-! ### The dispatch table (R306) -/

/-- The addressing modes whose operand is in memory (R354 to R361). -/
inductive MemMode
  | zp
  | zpx
  | zpy
  | abs
  | abx
  | aby
  | izx
  | izy
  deriving DecidableEq, Repr

/-- An entry of the dispatch table (R306): the sequence, by mode and access class, and the operation. -/
inductive Kind
  | implied (effect : State → State)
  | acc (result : Byte → State → Byte) (effect : Byte → State → State)
  | imm (effect : Byte → State → State)
  | read (m : MemMode) (effect : Byte → State → State)
  | write (m : MemMode) (value : State → Byte)
  | rmw (m : MemMode) (result : Byte → State → Byte) (effect : Byte → State → State)
  | high (m : MemMode) (reg : State → Byte) (effect : State → State)
  | branch (cond : Flags → Bool)
  | push (value : State → Byte)
  | pull (effect : Byte → State → State)
  | jmpAbs
  | jmpInd
  | jsr
  | rts
  | rti
  | brk
  | jam

/-- Row 0x of the dispatch table (R306). -/
def kindRow0 : List Kind :=
  [.brk, .read .izx opOra, .jam, .rmw .izx aslResult opSlo,
   .read .zp opNopRead, .read .zp opOra, .rmw .zp aslResult opAsl, .rmw .zp aslResult opSlo,
   .push pushedP, .imm opOra, .acc aslResult opAsl, .imm opAnc,
   .read .abs opNopRead, .read .abs opOra, .rmw .abs aslResult opAsl, .rmw .abs aslResult opSlo]

/-- Row 1x of the dispatch table (R306). -/
def kindRow1 : List Kind :=
  [.branch Flags.plus, .read .izy opOra, .jam, .rmw .izy aslResult opSlo,
   .read .zpx opNopRead, .read .zpx opOra, .rmw .zpx aslResult opAsl, .rmw .zpx aslResult opSlo,
   .implied opClc, .read .aby opOra, .implied opNop, .rmw .aby aslResult opSlo,
   .read .abx opNopRead, .read .abx opOra, .rmw .abx aslResult opAsl, .rmw .abx aslResult opSlo]

/-- Row 2x of the dispatch table (R306). -/
def kindRow2 : List Kind :=
  [.jsr, .read .izx opAnd, .jam, .rmw .izx rolResult opRla,
   .read .zp opBit, .read .zp opAnd, .rmw .zp rolResult opRol, .rmw .zp rolResult opRla,
   .pull opPlp, .imm opAnd, .acc rolResult opRol, .imm opAnc,
   .read .abs opBit, .read .abs opAnd, .rmw .abs rolResult opRol, .rmw .abs rolResult opRla]

/-- Row 3x of the dispatch table (R306). -/
def kindRow3 : List Kind :=
  [.branch Flags.minus, .read .izy opAnd, .jam, .rmw .izy rolResult opRla,
   .read .zpx opNopRead, .read .zpx opAnd, .rmw .zpx rolResult opRol, .rmw .zpx rolResult opRla,
   .implied opSec, .read .aby opAnd, .implied opNop, .rmw .aby rolResult opRla,
   .read .abx opNopRead, .read .abx opAnd, .rmw .abx rolResult opRol, .rmw .abx rolResult opRla]

/-- Row 4x of the dispatch table (R306). -/
def kindRow4 : List Kind :=
  [.rti, .read .izx opEor, .jam, .rmw .izx lsrResult opSre,
   .read .zp opNopRead, .read .zp opEor, .rmw .zp lsrResult opLsr, .rmw .zp lsrResult opSre,
   .push pushedA, .imm opEor, .acc lsrResult opLsr, .imm opAlr,
   .jmpAbs, .read .abs opEor, .rmw .abs lsrResult opLsr, .rmw .abs lsrResult opSre]

/-- Row 5x of the dispatch table (R306). -/
def kindRow5 : List Kind :=
  [.branch Flags.overflowClear, .read .izy opEor, .jam, .rmw .izy lsrResult opSre,
   .read .zpx opNopRead, .read .zpx opEor, .rmw .zpx lsrResult opLsr, .rmw .zpx lsrResult opSre,
   .implied opCli, .read .aby opEor, .implied opNop, .rmw .aby lsrResult opSre,
   .read .abx opNopRead, .read .abx opEor, .rmw .abx lsrResult opLsr, .rmw .abx lsrResult opSre]

/-- Row 6x of the dispatch table (R306). -/
def kindRow6 : List Kind :=
  [.rts, .read .izx opAdc, .jam, .rmw .izx rorResult opRra,
   .read .zp opNopRead, .read .zp opAdc, .rmw .zp rorResult opRor, .rmw .zp rorResult opRra,
   .pull opPla, .imm opAdc, .acc rorResult opRor, .imm opArr,
   .jmpInd, .read .abs opAdc, .rmw .abs rorResult opRor, .rmw .abs rorResult opRra]

/-- Row 7x of the dispatch table (R306). -/
def kindRow7 : List Kind :=
  [.branch Flags.overflowSet, .read .izy opAdc, .jam, .rmw .izy rorResult opRra,
   .read .zpx opNopRead, .read .zpx opAdc, .rmw .zpx rorResult opRor, .rmw .zpx rorResult opRra,
   .implied opSei, .read .aby opAdc, .implied opNop, .rmw .aby rorResult opRra,
   .read .abx opNopRead, .read .abx opAdc, .rmw .abx rorResult opRor, .rmw .abx rorResult opRra]

/-- Row 8x of the dispatch table (R306). -/
def kindRow8 : List Kind :=
  [.imm opNopRead, .write .izx storeA, .imm opNopRead, .write .izx storeSax,
   .write .zp storeY, .write .zp storeA, .write .zp storeX, .write .zp storeSax,
   .implied opDey, .imm opNopRead, .implied opTxa, .imm opAne,
   .write .abs storeY, .write .abs storeA, .write .abs storeX, .write .abs storeSax]

/-- Row 9x of the dispatch table (R306). -/
def kindRow9 : List Kind :=
  [.branch Flags.carryClear, .write .izy storeA, .jam, .high .izy regSha opStored,
   .write .zpx storeY, .write .zpx storeA, .write .zpy storeX, .write .zpy storeSax,
   .implied opTya, .write .aby storeA, .implied opTxs, .high .aby regTas opTas,
   .high .abx regShy opStored, .write .abx storeA, .high .aby regShx opStored, .high .aby regSha opStored]

/-- Row Ax of the dispatch table (R306). -/
def kindRowA : List Kind :=
  [.imm opLdy, .read .izx opLda, .imm opLdx, .read .izx opLax,
   .read .zp opLdy, .read .zp opLda, .read .zp opLdx, .read .zp opLax,
   .implied opTay, .imm opLda, .implied opTax, .imm opLxa,
   .read .abs opLdy, .read .abs opLda, .read .abs opLdx, .read .abs opLax]

/-- Row Bx of the dispatch table (R306). -/
def kindRowB : List Kind :=
  [.branch Flags.carrySet, .read .izy opLda, .jam, .read .izy opLax,
   .read .zpx opLdy, .read .zpx opLda, .read .zpy opLdx, .read .zpy opLax,
   .implied opClv, .read .aby opLda, .implied opTsx, .read .aby opLas,
   .read .abx opLdy, .read .abx opLda, .read .aby opLdx, .read .aby opLax]

/-- Row Cx of the dispatch table (R306). -/
def kindRowC : List Kind :=
  [.imm opCpy, .read .izx opCmp, .imm opNopRead, .rmw .izx decResult opDcp,
   .read .zp opCpy, .read .zp opCmp, .rmw .zp decResult opDec, .rmw .zp decResult opDcp,
   .implied opIny, .imm opCmp, .implied opDex, .imm opSbx,
   .read .abs opCpy, .read .abs opCmp, .rmw .abs decResult opDec, .rmw .abs decResult opDcp]

/-- Row Dx of the dispatch table (R306). -/
def kindRowD : List Kind :=
  [.branch Flags.notEqual, .read .izy opCmp, .jam, .rmw .izy decResult opDcp,
   .read .zpx opNopRead, .read .zpx opCmp, .rmw .zpx decResult opDec, .rmw .zpx decResult opDcp,
   .implied opCld, .read .aby opCmp, .implied opNop, .rmw .aby decResult opDcp,
   .read .abx opNopRead, .read .abx opCmp, .rmw .abx decResult opDec, .rmw .abx decResult opDcp]

/-- Row Ex of the dispatch table (R306). -/
def kindRowE : List Kind :=
  [.imm opCpx, .read .izx opSbc, .imm opNopRead, .rmw .izx incResult opIsc,
   .read .zp opCpx, .read .zp opSbc, .rmw .zp incResult opInc, .rmw .zp incResult opIsc,
   .implied opInx, .imm opSbc, .implied opNop, .imm opUsbc,
   .read .abs opCpx, .read .abs opSbc, .rmw .abs incResult opInc, .rmw .abs incResult opIsc]

/-- Row Fx of the dispatch table (R306). -/
def kindRowF : List Kind :=
  [.branch Flags.equal, .read .izy opSbc, .jam, .rmw .izy incResult opIsc,
   .read .zpx opNopRead, .read .zpx opSbc, .rmw .zpx incResult opInc, .rmw .zpx incResult opIsc,
   .implied opSed, .read .aby opSbc, .implied opNop, .rmw .aby incResult opIsc,
   .read .abx opNopRead, .read .abx opSbc, .rmw .abx incResult opInc, .rmw .abx incResult opIsc]

/-- The dispatch table (R306), by rows. -/
def kindTable : List (List Kind) :=
  [kindRow0, kindRow1, kindRow2, kindRow3, kindRow4, kindRow5, kindRow6, kindRow7] ++
  [kindRow8, kindRow9, kindRowA, kindRowB, kindRowC, kindRowD, kindRowE, kindRowF]

/-- The entry of an opcode. Every opcode has one (R306). -/
def kindOf (opcode : Byte) : Kind := (((kindTable[opcode.toNat / 16]?).getD [])[opcode.toNat % 16]?).getD .jam

/-! ### Rows -/

/-- A row of a sequence table (R350): its transaction, and what happens at the end of its cycle, given the byte read. -/
inductive Row
  | read (addr : Word) (after : Byte → State → State)
  | write (addr : Word) (value : Byte) (after : State → State)

/-- The state with scratch registers `f` of the old ones (R63). -/
def State.withScratch (s : State) (f : Scratch → Scratch) : State :=
  { s with micro := { s.micro with scratch := f s.micro.scratch } }

/-- The state with `lo` latched. -/
def State.latchLo (s : State) (v : Byte) : State := s.withScratch (fun c => { c with lo := v })

/-- The state with `hi` latched, and the address `hi ++ lo` as base and effective address. -/
def State.latchHi (s : State) (v : Byte) : State :=
  s.withScratch (fun c => { c with hi := v, base := mkWord v c.lo, ea := mkWord v c.lo })

/-- The state with the zero-page pointer latched. -/
def State.latchPtr (s : State) (v : Byte) : State := s.withScratch (fun c => { c with ptr := v })

/-- The state with the effective address latched. -/
def State.latchEa (s : State) (a : Word) : State := s.withScratch (fun c => { c with ea := a })

/-- The state with the operand latched. -/
def State.latchOperand (s : State) (v : Byte) : State := s.withScratch (fun c => { c with operand := v })

/-- The state with the branch displacement latched. -/
def State.latchOffset (s : State) (v : Byte) : State := s.withScratch (fun c => { c with offset := v })

/-- The poll, when this is a poll cycle. -/
def State.pollIf (s : State) (now : Bool) : State := if now then s.poll else s

/-- A fetch of an instruction byte at PC (R15). -/
def fetchRow (s : State) (after : Byte → State → State) : Row := .read s.pc (fun b t => after b t.incPc)

/-- A dummy read (R20). -/
def dummyRow (addr : Word) (after : State → State) : Row := .read addr (fun _ t => after t)

/-! ### Memory modes (R354 to R361) -/

/-- The index register of a mode. -/
def MemMode.index (m : MemMode) (s : State) : Byte :=
  match m with
  | .zpx | .abx | .izx => s.x
  | .zpy | .aby | .izy => s.y
  | .zp | .abs => 0

/-- Whether the mode's base plus its index crosses a page, once the base is latched. -/
def MemMode.crossed (m : MemMode) (s : State) : Bool := crosses s.micro.scratch.base (m.index s)

/-- The cycle of the operand's first transaction at `ea`. The modes abs,X, abs,Y and (zp),Y have a dummy read at the
unfixed address before it: always when `forced` (classes W and M), else on a page crossing (R358, R359, R361). -/
def operandCycle (m : MemMode) (forced : Bool) (s : State) : Nat :=
  match m with
  | .zp => 3
  | .zpx | .zpy | .abs => 4
  | .abx | .aby => if forced || m.crossed s then 5 else 4
  | .izx => 6
  | .izy => if forced || m.crossed s then 6 else 5

/-- Row `c` of a mode, before the operand's cycle. -/
def headRow (m : MemMode) (c : Nat) (s : State) : Row :=
  let u := unfixed s.micro.scratch.base (m.index s)
  let ptr := s.micro.scratch.ptr
  match m, c with
  | .zp, _ => fetchRow s (fun b t => t.latchEa (zpAddr b))
  | .zpx, 2 => fetchRow s (fun b t => t.latchPtr b)
  | .zpy, 2 => fetchRow s (fun b t => t.latchPtr b)
  | .zpx, _ => dummyRow (zpAddr ptr) (fun t => t.latchEa (zpAddr (ptr + t.x)))
  | .zpy, _ => dummyRow (zpAddr ptr) (fun t => t.latchEa (zpAddr (ptr + t.y)))
  | .abs, 2 => fetchRow s (fun b t => t.latchLo b)
  | .abs, _ => fetchRow s (fun b t => t.latchHi b)
  | .abx, 2 => fetchRow s (fun b t => t.latchLo b)
  | .aby, 2 => fetchRow s (fun b t => t.latchLo b)
  | .abx, 3 => fetchRow s (fun b t => (t.latchHi b).latchEa (indexed (mkWord b t.micro.scratch.lo) t.x))
  | .aby, 3 => fetchRow s (fun b t => (t.latchHi b).latchEa (indexed (mkWord b t.micro.scratch.lo) t.y))
  | .abx, _ => dummyRow u (fun t => t)
  | .aby, _ => dummyRow u (fun t => t)
  | .izx, 2 => fetchRow s (fun b t => t.latchPtr b)
  | .izx, 3 => dummyRow (zpAddr ptr) (fun t => t.latchPtr (ptr + t.x))
  | .izx, 4 => .read (zpAddr ptr) (fun b t => t.latchLo b)
  | .izx, _ => .read (zpAddr (ptr + 1)) (fun b t => t.latchHi b)
  | .izy, 2 => fetchRow s (fun b t => t.latchPtr b)
  | .izy, 3 => .read (zpAddr ptr) (fun b t => t.latchLo b)
  | .izy, 4 =>
    .read (zpAddr (ptr + 1)) (fun b t => (t.latchHi b).latchEa (indexed (mkWord b t.micro.scratch.lo) t.y))
  | .izy, _ => dummyRow u (fun t => t)

/-- A row with `f` applied at the end of its cycle. -/
def Row.andThen (r : Row) (f : State → State) : Row :=
  match r with
  | .read a after => .read a (fun b t => f (after b t))
  | .write a v after => .write a v (fun t => f (after t))

/-- Row `c` of a memory mode for an instruction whose operand takes one cycle, which is its last: the row before it polls
(R321). -/
def oneCycleOperand (m : MemMode) (forced : Bool) (last : Row) (c : Nat) (s : State) : Row :=
  if c < operandCycle m forced s then
    (headRow m c s).andThen (fun t => t.pollIf (decide (c + 1 = operandCycle m forced t)))
  else last

/-- Row `c` of a read-modify-write instruction (R354): the row before the last polls. -/
def modifyRow (m : MemMode) (result : Byte → State → Byte) (effect : Byte → State → State) (c : Nat) (s : State) : Row :=
  let ea := s.micro.scratch.ea
  let operand := s.micro.scratch.operand
  if c < operandCycle m true s then headRow m c s
  else if c = operandCycle m true s then .read ea (fun b t => t.latchOperand b)
  else if c = operandCycle m true s + 1 then .write ea operand State.poll
  else .write ea (result operand s) (fun t => (effect operand t).endInstr)

/-! ### Stack and control sequences (R362 to R370) -/

/-- Row `c` of a conditional branch (R362). -/
def branchRow (cond : Flags → Bool) (c : Nat) (s : State) : Row :=
  match c with
  | 2 => fetchRow s (fun b t => if cond t.p then t.latchOffset b else t.endInstr)
  | 3 => dummyRow s.pc (fun t =>
      let target := t.pc + sext16 t.micro.scratch.offset
      if hiByte target = hiByte t.pc then (t.setPc target).endInstr
      else ((t.latchEa target).setPc (mkWord (hiByte t.pc) (loByte target))).poll)
  | _ => dummyRow s.pc (fun t => (t.setPc t.micro.scratch.ea).endInstr)

/-- Row `c` of PHA and PHP (R364). -/
def pushRow (value : State → Byte) (c : Nat) (s : State) : Row :=
  match c with
  | 2 => dummyRow s.pc State.poll
  | _ => .write s.stackTop (value s) (fun t => t.decSp.endInstr)

/-- Row `c` of PLA and PLP (R365). -/
def pullRow (effect : Byte → State → State) (c : Nat) (s : State) : Row :=
  match c with
  | 2 => dummyRow s.pc (fun t => t)
  | 3 => dummyRow s.stackTop (fun t => t.incSp.poll)
  | _ => .read s.stackTop (fun v t => (effect v t).endInstr)

/-- Row `c` of JMP abs (R370). -/
def jmpAbsRow (c : Nat) (s : State) : Row :=
  match c with
  | 2 => fetchRow s (fun b t => (t.latchLo b).poll)
  | _ => .read s.pc (fun b t => (t.setPc (mkWord b t.micro.scratch.lo)).endInstr)

/-- Row `c` of JMP (abs) (R363). -/
def jmpIndRow (c : Nat) (s : State) : Row :=
  match c with
  | 2 => fetchRow s (fun b t => t.latchLo b)
  | 3 => fetchRow s (fun b t => t.latchHi b)
  | 4 => .read s.micro.scratch.ea (fun b t => (t.latchLo b).poll)
  | _ => .read (nextInPage s.micro.scratch.ea) (fun b t => (t.setPc (mkWord b t.micro.scratch.lo)).endInstr)

/-- Row `c` of JSR (R366). -/
def jsrRow (c : Nat) (s : State) : Row :=
  match c with
  | 2 => fetchRow s (fun b t => t.latchLo b)
  | 3 => dummyRow s.stackTop (fun t => t)
  | 4 => .write s.stackTop (hiByte s.pc) State.decSp
  | 5 => .write s.stackTop (loByte s.pc) (fun t => t.decSp.poll)
  | _ => .read s.pc (fun b t => (t.setPc (mkWord b t.micro.scratch.lo)).endInstr)

/-- Row `c` of RTS (R367). -/
def rtsRow (c : Nat) (s : State) : Row :=
  match c with
  | 2 => dummyRow s.pc (fun t => t)
  | 3 => dummyRow s.stackTop State.incSp
  | 4 => .read s.stackTop (fun b t => (t.latchLo b).incSp)
  | 5 => .read s.stackTop (fun b t => (t.setPc (mkWord b t.micro.scratch.lo)).poll)
  | _ => dummyRow s.pc (fun t => t.incPc.endInstr)

/-- Row `c` of RTI (R368). -/
def rtiRow (c : Nat) (s : State) : Row :=
  match c with
  | 2 => dummyRow s.pc (fun t => t)
  | 3 => dummyRow s.stackTop State.incSp
  | 4 => .read s.stackTop (fun b t => { t with p := Flags.unpack b }.incSp)
  | 5 => .read s.stackTop (fun b t => (t.latchLo b).incSp.poll)
  | _ => .read s.stackTop (fun b t => (t.setPc (mkWord b t.micro.scratch.lo)).endInstr)

/-- Rows 6 and 7 of BRK and of the interrupt and reset sequences (R369, R373, R374). -/
def vectorRow (lo hi : Word) (c : Nat) : Row :=
  match c with
  | 6 => .read lo (fun b t => (t.latchLo b).setI.poll)
  | _ => .read hi (fun b t => (t.setPc (mkWord b t.micro.scratch.lo)).endTrap)

/-- Rows 3 to 7 of BRK (`b` true) and of the interrupt sequence (`b` false) (R369, R373). -/
def trapRow (b : Bool) (c : Nat) (s : State) : Row :=
  match c with
  | 3 => .write s.stackTop (hiByte s.pc) State.decSp
  | 4 => .write s.stackTop (loByte s.pc) State.decSp
  | 5 => .write s.stackTop (s.p.pack b) State.decSp
  | _ => vectorRow irqVectorLo irqVectorHi c

/-- Row `c` of BRK (R369). -/
def brkRow (c : Nat) (s : State) : Row :=
  match c with
  | 2 => fetchRow s (fun _ t => t)
  | _ => trapRow true c s

/-- Row `c` of the interrupt sequence (R373). -/
def irqRow (c : Nat) (s : State) : Row :=
  match c with
  | 1 => dummyRow s.pc (fun t => t)
  | 2 => dummyRow s.pc (fun t => t)
  | _ => trapRow false c s

/-- Row `c` of the reset sequence (R374). -/
def resetRow (c : Nat) (s : State) : Row :=
  match c with
  | 1 => dummyRow s.pc (fun t => t)
  | 2 => dummyRow s.pc (fun t => t)
  | 3 => dummyRow s.stackTop State.decSp
  | 4 => dummyRow s.stackTop State.decSp
  | 5 => dummyRow s.stackTop State.decSp
  | _ => vectorRow resetVectorLo resetVectorHi c

/-! ### The step -/

/-- Row `c`, from 2 on, of an instruction (R303). -/
def instrRow (k : Kind) (c : Nat) (s : State) : Row :=
  let ea := s.micro.scratch.ea
  match k with
  | .implied effect => dummyRow s.pc (fun t => (effect t).endInstr)
  | .acc result effect => dummyRow s.pc (fun t => { effect t.a t with a := result t.a t }.endInstr)
  | .imm effect => fetchRow s (fun b t => (effect b t).endInstr)
  | .read m effect => oneCycleOperand m false (.read ea (fun b t => (effect b t).endInstr)) c s
  | .write m value => oneCycleOperand m true (.write ea (value s) State.endInstr) c s
  | .rmw m result effect => modifyRow m result effect c s
  | .high m reg effect =>
    let base := s.micro.scratch.base
    oneCycleOperand m true
      (.write (s.highStoreAddr base (m.index s) (reg s)) (s.highStoreValue base (reg s)) (fun t => (effect t).endInstr))
      c s
  | .branch cond => branchRow cond c s
  | .push value => pushRow value c s
  | .pull effect => pullRow effect c s
  | .jmpAbs => jmpAbsRow c s
  | .jmpInd => jmpIndRow c s
  | .jsr => jsrRow c s
  | .rts => rtsRow c s
  | .rti => rtiRow c s
  | .brk => brkRow c s
  | .jam => dummyRow s.pc State.endInstr

/-- Whether an instruction polls at the end of its opcode fetch: those of two cycles, and the branches (R321). -/
def Kind.pollsFirst : Kind → Bool
  | .implied _ => true
  | .acc _ _ => true
  | .imm _ => true
  | .branch _ => true
  | _ => false

/-- What an opcode fetch ends with, once latched: the jammed state for a JAM opcode (R313), else perhaps a poll. A JAM opcode has
no poll (R321); that it has none under BOUNDARY either is DESIGN CHOICE (R322; log entry 24). -/
def afterOpcode (opcode : Byte) (t : State) : State :=
  match kindOf opcode with
  | .jam => t.enterJam opcode
  | k => t.pollIf k.pollsFirst

/-- Row 1 of every instruction (R302, R350). -/
def opcodeRow (s : State) : Row := .read s.pc (fun b t => afterOpcode b (t.latchOpcode b))

/-- The row of the next cycle (R302, R303). -/
def State.currentRow (s : State) : Row :=
  match s.micro.stage with
  | .opcode => opcodeRow s
  | _ =>
    match s.micro.seq with
    | .instr => instrRow (kindOf s.micro.opcode) (s.micro.decodeCycle + 1) s
    | .irq => irqRow (s.micro.decodeCycle + 1) s
    | .reset => resetRow (s.micro.decodeCycle + 1) s

/-- One micro-cycle (R305), or a stall when RDY is low and the cycle is a read (R310). -/
def State.microCycle (s : State) : State :=
  match s.currentRow with
  | .read addr after => if s.rdyLow then s.stallCycle else after (s.busRead addr) (s.readCycle addr)
  | .write addr v after => after (s.writeCycle addr v)

/-- `step()` of the spec (R300). -/
def microStep (s : State) : State :=
  match s.prelude with
  | .idle s' => s'.idleCycle
  | .run s' => s'.microCycle

/-- `n` calls of `step()`: the host's `fastForward` (R324, R743). -/
def microSteps : Nat → State → State
  | 0, s => s
  | n + 1, s => microSteps n (microStep s)

/-! ### Whole sequences -/

/-- The byte the third fetch of the next instruction finds: in its third cycle, or for JSR in its sixth (R366), with memory
as it is before the instruction's own pushes. -/
def State.thirdByte (s : State) (opcode second : Byte) : Byte :=
  let t := if opcode = 0x20 then { s.headJsr opcode second with mem := s.mem } else s.fetch2 opcode second
  t.busRead (s.pc + 2)

/-- The bytes of the next instruction as its own cycles will read them (R105): the opcode and two more. -/
def State.fetchBytes (s : State) : List Byte :=
  let opcode := s.busRead s.pc
  let second := (s.opcodeCycle opcode).busRead (s.pc + 1)
  [opcode, second, s.thirdByte opcode second]

/-- What comes next, once the checks of R300 are done. -/
inductive Upcoming
  /-- RDY is low and the next cycle is the first, a read: a stall (R310). -/
  | stall
  /-- An instruction, from its opcode fetch. -/
  | instruction
  /-- The interrupt sequence, from its first cycle. -/
  | irqSequence
  /-- The reset sequence, from its first cycle. -/
  | resetSequence
  /-- The rest of a sequence already under way: its next cycle. -/
  | cycle
  deriving DecidableEq, Repr

/-- What comes next. -/
def State.upcoming (s : State) : Upcoming :=
  match s.micro.stage, s.micro.seq, s.micro.decodeCycle with
  | .opcode, _, _ => if s.rdyLow then .stall else .instruction
  | _, .irq, 0 => if s.rdyLow then .stall else .irqSequence
  | _, .reset, 0 => if s.rdyLow then .stall else .resetSequence
  | _, _, _ => .cycle

end Sys2Proof.Machine
end

