-- ==== Sys2Proof/Machine/Step.lean ====
section
/-! DEFINITION. The step of the model at the transaction level: one whole instruction, interrupt sequence or reset
sequence, or one idle or single cycle where none can run whole (NOTES.md, log entry 8). `microStep` (Machine/Micro.lean) is
the spec's own `step()`, one cycle at a time. -/

namespace Sys2Proof.Machine

/-- One instruction: fetched, decoded and run. -/
def State.runInstruction (s : State) : Host.Outcome State Fault Refusal :=
  match decode s.fetchBytes with
  | .ok (i, _) => exec i s
  | .error _ => .refused .undecodable

/-- The step: the checks of R300, then what comes next. -/
def step (s : State) : Host.Outcome State Fault Refusal :=
  match s.prelude with
  | .idle s' => .next s'.idleCycle
  | .run s' =>
    match s'.upcoming with
    | .stall => .next s'.stallCycle
    | .instruction => s'.runInstruction
    | .irqSequence => .next s'.irqSequence
    | .resetSequence => .next s'.resetSequence
    | .cycle => .next s'.microCycle

/-- The control pins at the levels that let instructions run. -/
def CpuPins.running (p : CpuPins) : CpuPins := { p with reset := .high, rdy := .high, aec := .high }

/-- The state with an instruction of at most three bytes where the next fetch takes it: in RAM at PC, at a boundary with
nothing pending (log entry 9). -/
def State.withFetchWord (s : State) (nbits w : Nat) : State :=
  let v := w % 2 ^ nbits
  { s with
    mem := ((s.mem.write s.pc.toNat (byteOfNat v 0)).write (s.pc + 1).toNat (byteOfNat v 1)).write (s.pc + 2).toNat
      (byteOfNat v 2)
    map := []
    resetHeld := false
    resetPending := false
    jammed := false
    irqPending := false
    micro := { s.micro with stage := .opcode, seq := .instr, disturbed := false }
    net := { s.net with cpu := s.net.cpu.running } }

end Sys2Proof.Machine
end

