-- ==== Sys2Proof/Machine/Network.lean ====
section
/-! DEFINITION. The signal network: pins, nets and buses (40_signal_network.md sections 1 to 3).

An operation of the network is a call: it returns a value or stops with a fault or a refusal, and in both cases the state it
leaves is that of the point it reached, since nothing is rolled back (R701). The order in which a net's pins are visited is
open (R213): every operation that propagates takes an `order`, and a statement holds for every one. Where several pins are
left to visit, `order k` picks the next, `k` being the number of choices made before. -/

namespace Sys2Proof.Machine

/-- Why a call stopped. -/
inductive Stop
  | fault (f : Fault)
  | refusal (r : Refusal)
  deriving DecidableEq, Repr

/-- A call on the network. -/
abbrev NetM := EStateM Stop State

/-- The fault a kind other than JAM stops a call with (R700); JAM stops none, it is a state of the CPU (R623). -/
def FaultRec.toFault (r : FaultRec) : Option Fault :=
  match r.kind with
  | .jam _ _ => none
  | .invalidDirectionPin _ => some (.invalidDirection r)
  | .invalidDirectionBus _ => some (.invalidDirection r)
  | .genderMismatch _ _ => some (.genderMismatch r)
  | .busDirectionMismatch _ => some (.busDirectionMismatch r)
  | .propagationOverflow _ _ => some (.propagationOverflow r)
  | .connectorBusy _ _ => some (.connectorBusy r)
  | .busWidthMismatch _ _ => some (.busWidthMismatch r)

/-- `raise` (R16, R700): the record joins the fault log and the call stops. -/
def raiseFault {α : Type} (kind : FaultKind) : NetM α := do
  let s ← get
  let r : FaultRec := { kind := kind, cycle := s.cycleCounter }
  set { s with faultLog := s.faultLog ++ [r] }
  match r.toFault with
  | some f => throw (.fault f)
  | none => throw (.refusal .noSuchObject)

/-- A call the spec does not define is refused. -/
def refuse {α : Type} (r : Refusal) : NetM α := throw (.refusal r)

/-! ### Pins (R75, R200 to R208) -/

/-- The level of a bit. -/
def Level.ofBool (b : Bool) : Level := if b then .high else .low

/-- The bit of a level. -/
def Level.toBool (l : Level) : Bool := decide (l = .high)

/-- The value with bit `i` as `b`. -/
def putBit {w : Nat} (v : BitVec w) (i : Nat) (b : Bool) : BitVec w :=
  if b then v ||| (1#w <<< i) else v &&& ~~~(1#w <<< i)

/-- The direction of a pin; none for a pin never created. -/
def Net.directionOf (n : Net) : PinId → Option Direction
  | .addr i => some n.cpu.addrDir[i]
  | .data i => some n.cpu.dataDir[i]
  | .rw => some n.cpu.rwDir
  | .reset => some .input
  | .irq => some .input
  | .phi0 => some .input
  | .aec => some .input
  | .rdy => some .input
  | .ext k => (n.pins[k]?).map Pin.direction

/-- The level of a pin (R203): the stored level, whatever the direction. -/
def Net.levelOf (n : Net) : PinId → Level
  | .addr i => Level.ofBool (n.cpu.addr.getLsbD i)
  | .data i => Level.ofBool (n.cpu.data.getLsbD i)
  | .rw => n.cpu.rw
  | .reset => n.cpu.reset
  | .irq => n.cpu.irq
  | .phi0 => n.cpu.phi0
  | .aec => n.cpu.aec
  | .rdy => n.cpu.rdy
  | .ext k => ((n.pins[k]?).map Pin.level).getD .low

/-- The owner of a pin (R75). -/
def Net.ownerOf (n : Net) : PinId → Option Owner
  | .ext k => (n.pins[k]?).map Pin.owner
  | _ => some .cpu

/-- A created pin with `f` applied to it. -/
def Net.modifyPin (n : Net) (k : Nat) (f : Pin → Pin) : Net := { n with pins := n.pins.modify k f }

/-- The network with a pin's stored level replaced; no rule is applied. -/
def Net.putLevel (n : Net) (p : PinId) (v : Level) : Net :=
  match p with
  | .addr i => { n with cpu := { n.cpu with addr := putBit n.cpu.addr i v.toBool } }
  | .data i => { n with cpu := { n.cpu with data := putBit n.cpu.data i v.toBool } }
  | .rw => { n with cpu := { n.cpu with rw := v } }
  | .reset => { n with cpu := { n.cpu with reset := v } }
  | .irq => { n with cpu := { n.cpu with irq := v } }
  | .phi0 => { n with cpu := { n.cpu with phi0 := v } }
  | .aec => { n with cpu := { n.cpu with aec := v } }
  | .rdy => { n with cpu := { n.cpu with rdy := v } }
  | .ext k => n.modifyPin k (fun q => { q with level := v })

/-- The network with a pin's direction replaced (R201). The CPU's control pins are always INPUT (R71). -/
def Net.putDirection (n : Net) (p : PinId) (d : Direction) : Net :=
  match p with
  | .addr i => { n with cpu := { n.cpu with addrDir := n.cpu.addrDir.set i d } }
  | .data i => { n with cpu := { n.cpu with dataDir := n.cpu.dataDir.set i d } }
  | .rw => { n with cpu := { n.cpu with rwDir := d } }
  | .ext k => n.modifyPin k (fun q => { q with direction := d })
  | _ => n

/-- Whether a pin may be given a direction: a control pin of the CPU only INPUT (R71). -/
def PinId.allows (p : PinId) (d : Direction) : Bool :=
  match p with
  | .reset | .irq | .phi0 | .aec | .rdy => decide (d = .input)
  | _ => true

/-- The sink of a pin (R206). -/
def Net.sinkOf (n : Net) : PinId → Option Sink
  | .ext k => (n.pins[k]?).bind Pin.sink
  | p => n.cpuSinks.lookup p

/-- The network with a pin's one sink replaced. -/
def Net.putSink (n : Net) (p : PinId) (k : Sink) : Net :=
  match p with
  | .ext j => n.modifyPin j (fun q => { q with sink := some k })
  | _ => { n with cpuSinks := (p, k) :: n.cpuSinks.filter (fun e => decide (e.1 ≠ p)) }

/-- The state with `f` applied to its network. -/
def State.mapNet (s : State) (f : Net → Net) : State := { s with net := f s.net }

/-- Whether a component may set a pin: it must own it (R208). -/
def checkOwner (who : Owner) (p : PinId) : NetM Unit := do
  match (← get).net.ownerOf p with
  | none => refuse .noSuchObject
  | some o => if o = who then pure () else refuse (.foreignPin p)

/-- `Pin.create` (R200, R79). -/
def pinCreate (owner : Owner) (name : String) (d : Direction) : NetM PinId := do
  let s ← get
  set (s.mapNet (fun n =>
    { n with pins := n.pins ++ [{ name := name, owner := owner, direction := d, level := .low, sink := none }] }))
  pure (.ext s.net.pins.length)

/-- `Pin.direction`, called by the pin's owner (R201): nothing is propagated. -/
def setDirection (who : Owner) (p : PinId) (d : Direction) : NetM Unit := do
  checkOwner who p
  if p.allows d then modify (fun s => s.mapNet (fun n => n.putDirection p d)) else refuse (.controlPin p)

/-- `Pin.onChange` (R206), called by the pin's owner: the pin's one sink. -/
def onChange (who : Owner) (p : PinId) (k : Sink) : NetM Unit := do
  checkOwner who p
  modify (fun s => s.mapNet (fun n => n.putSink p k))

/-! ### Links and nets (R76, R211, R212, R215) -/

/-- Whether a link joins two pins, either way round. -/
def Link.joins (l : Link) (p q : PinId) : Bool := decide (l.p = p ∧ l.q = q ∨ l.p = q ∧ l.q = p)

/-- The links with one more, unless it is there (R231). -/
def addLink (links : List Link) (l : Link) : List Link := if links.contains l then links else links ++ [l]

/-- The links after `Pin.connect(p, q)` (R211). -/
def connectLinks (links : List Link) (p q : PinId) : List Link :=
  if p = q ∨ links.any (fun l => decide (l.origin = .direct) && l.joins p q) then links
  else links ++ [{ p := p, q := q, origin := .direct }]

/-- The links after `Pin.disconnect(p)` (R212). -/
def disconnectLinks (links : List Link) (p : PinId) : List Link := links.filter (fun l => decide (l.p ≠ p ∧ l.q ≠ p))

/-- The pins reached from `seen` over one more pass of the links. -/
def growNet : List Link → List PinId → List PinId
  | [], seen => seen
  | l :: rest, seen =>
    if seen.contains l.p && !seen.contains l.q then growNet rest (seen ++ [l.q])
    else if seen.contains l.q && !seen.contains l.p then growNet rest (seen ++ [l.p])
    else growNet rest seen

/-- `k` passes. -/
def growNetTimes (links : List Link) : Nat → List PinId → List PinId
  | 0, seen => seen
  | k + 1, seen => growNetTimes links k (growNet links seen)

/-- The net of a pin (R215): the pins its links reach, itself first. A pass that adds none ends the growth, so as many
passes as there are links reach them all. -/
def netOf (links : List Link) (p : PinId) : List PinId := growNetTimes links links.length [p]

/-- Whether a pin exists. -/
def checkPin (p : PinId) : NetM Unit := do
  match (← get).net.directionOf p with
  | none => refuse .noSuchObject
  | some _ => pure ()

/-- `Pin.connect` (R211). -/
def connect (p q : PinId) : NetM Unit := do
  checkPin p
  checkPin q
  modify (fun s => s.mapNet (fun n => { n with links := connectLinks n.links p q }))

/-- `Pin.disconnect` (R212). -/
def disconnect (p : PinId) : NetM Unit := do
  checkPin p
  modify (fun s => s.mapNet (fun n => { n with links := disconnectLinks n.links p }))

/-! ### Buses: their pins, directions and value (R220 to R222, R227) -/

/-- The pins of a bus, pin 0 first (R227); none for a bus never created. -/
def Net.busPins (n : Net) : BusId → Option (List PinId)
  | .cpuAddr => some ((List.finRange 16).map PinId.addr)
  | .cpuData => some ((List.finRange 8).map PinId.data)
  | .ext k => (n.buses[k]?).map BusRec.pins

/-- The aggregate sink of a bus (R77). -/
def Net.busSink (n : Net) : BusId → Option BusSink
  | .cpuAddr => n.addrSink
  | .cpuData => n.dataSink
  | .ext k => (n.buses[k]?).bind BusRec.sink

/-- The network with a bus's one aggregate sink replaced. -/
def Net.putBusSink (n : Net) (b : BusId) (k : BusSink) : Net :=
  match b with
  | .cpuAddr => { n with addrSink := some k }
  | .cpuData => { n with dataSink := some k }
  | .ext j => { n with buses := n.buses.modify j (fun r => { r with sink := some k }) }

/-- The one direction of a list of pins; none where they disagree (R222). -/
def Net.sharedDirection (n : Net) : List PinId → Option Direction
  | [] => none
  | p :: rest =>
    match n.directionOf p with
    | some d => if rest.all (fun q => decide (n.directionOf q = some d)) then some d else none
    | none => none

/-- The number the levels of a list of pins form, the first as bit 0 (R222, R227). -/
def Net.valueOf (n : Net) : List PinId → Nat
  | [] => 0
  | p :: rest => (if n.levelOf p = .high then 1 else 0) + 2 * n.valueOf rest

/-- The pins of a bus, or a refusal. -/
def busPinsOf (b : BusId) : NetM (List PinId) := do
  match (← get).net.busPins b with
  | some ps => pure ps
  | none => refuse .noSuchObject

/-- `Bus.create` (R220): at least one pin, all distinct. -/
def busCreate (ps : List PinId) : NetM BusId := do
  let s ← get
  if ps = [] ∨ ¬ ps.Nodup then refuse .badBus
  else if ps.all (fun p => decide (s.net.directionOf p ≠ none)) then
    set (s.mapNet (fun n => { n with buses := n.buses ++ [{ pins := ps, sink := none }] }))
    pure (.ext s.net.buses.length)
  else refuse .noSuchObject

/-- The aggregate sink of a bus (R77), registered by a component `who`. -/
def busOnChange (who : Owner) (b : BusId) (k : Sink) : NetM Unit := do
  let _ ← busPinsOf b
  modify (fun s => s.mapNet (fun n => n.putBusSink b { owner := who, sink := k }))

/-- Set the direction of each pin, in index order (R221). -/
def setDirections (who : Owner) (d : Direction) : List PinId → NetM Unit
  | [] => pure ()
  | p :: rest => do
    setDirection who p d
    setDirections who d rest

/-- `Bus.direction` (R221). -/
def busDirection (who : Owner) (b : BusId) (d : Direction) : NetM Unit := do
  setDirections who d (← busPinsOf b)

/-- `Bus.value(b)` (R222). -/
def busValue (b : BusId) : NetM Nat := do
  let ps ← busPinsOf b
  let s ← get
  match s.net.sharedDirection ps with
  | none => raiseFault (.busDirectionMismatch b)
  | some _ => pure (s.net.valueOf ps)

/-! ### What a sink may change (R214) -/

/-- The pins whose levels a sink sets. -/
def Sink.sets (n : Net) : Sink → List PinId
  | .done => []
  | .setLevel p _ next => p :: next.sets n
  | .setDirection _ _ next => next.sets n
  | .writeBus b _ next => (n.busPins b).getD [] ++ next.sets n
  | .turnBus _ _ next => next.sets n
  | .readBus _ next => next.sets n
  | .branch _ yes no next => yes.sets n ++ no.sets n ++ next.sets n
  | .clock next =>
    (List.finRange 16).map PinId.addr ++ (List.finRange 8).map PinId.data ++ [.rw] ++ n.memoryPins ++ next.sets n

/-- Every bus with an aggregate sink: its pins and the sink. -/
def Net.heardBuses (n : Net) : List (List PinId × Sink) :=
  let cpu := [(BusId.cpuAddr, n.addrSink), (BusId.cpuData, n.dataSink)].filterMap
    (fun e => e.2.map (fun k => ((n.busPins e.1).getD [], k.sink)))
  cpu ++ n.buses.filterMap (fun r => r.sink.map (fun k => (r.pins, k.sink)))

/-- The pins that a change of a pin reaches at once: those linked to it, and those its sink, or the aggregate sink of a bus
it belongs to, sets. -/
def Net.reaches (n : Net) (p : PinId) : List PinId :=
  n.links.filterMap (fun l => if l.p = p then some l.q else if l.q = p then some l.p else none) ++
    ((n.sinkOf p).map (Sink.sets n)).getD [] ++
    n.heardBuses.flatMap (fun b => if b.1.contains p then b.2.sets n else [])

/-- The pins reached from `seen` in `k` rounds. -/
def Net.reachable (n : Net) : Nat → List PinId → List PinId
  | 0, seen => seen
  | k + 1, seen =>
    n.reachable k (seen.foldl (fun acc p => (n.reaches p).foldl (fun l q => if l.contains q then l else l ++ [q]) acc) seen)

/-- A number of its own for every pin. -/
def PinId.number : PinId → Nat
  | .addr i => i
  | .data i => 16 + i
  | .rw => 24
  | .reset => 25
  | .irq => 26
  | .phi0 => 27
  | .aec => 28
  | .rdy => 29
  | .ext k => 30 + k

/-- The network after an overflow during a change of pin `p`, the fault log having `f` records: the levels of the pins
reachable from `p` are unspecified (R214; U3), and the network is never again settled. As many rounds as there are pins reach
them all. -/
def Net.unsettle (n : Net) (p : PinId) (f : Nat) : Net :=
  let pins := n.reachable (30 + n.pins.length) [p]
  { pins.foldl (fun m q => m.putLevel q (Level.ofBool (Config.overflowLevel f q.number))) n with unsettled := true }

/-! ### Propagation (R202, R210, R213, R214) -/

/-- Element `k` of a list, and the others. -/
def takeAt {α : Type} : Nat → List α → Option (α × List α)
  | _, [] => none
  | 0, x :: xs => some (x, xs)
  | k + 1, x :: xs => (takeAt k xs).map (fun r => (r.1, x :: r.2))

/-- The place of the pin visited next among those left, and the network that has counted the choice, if it was one. -/
def Net.choose (n : Net) (order : Nat → Nat) (left : List PinId) : Nat × Net :=
  if left.length ≤ 1 then (0, n) else (order n.choices % left.length, { n with choices := n.choices + 1 })

/-- Visit every pin of a list, in the order `order` gives (R213). The number is that of the pins left. -/
def visitAll (order : Nat → Nat) (visit : PinId → NetM Unit) : Nat → List PinId → NetM Unit
  | 0, _ => pure ()
  | n + 1, left => do
    let s ← get
    match takeAt (s.net.choose order left).1 left with
    | none => pure ()
    | some (q, rest) =>
      set { s with net := (s.net.choose order left).2 }
      visit q
      visitAll order visit n rest

/-- One visit of R210: an INPUT pin whose level differs from the source's, read now, takes it and is notified. -/
def visitPin (source : State → Level) (notify : PinId → Level → NetM Unit) (q : PinId) : NetM Unit := do
  let s ← get
  let v := source s
  if s.net.directionOf q = some .input ∧ s.net.levelOf q ≠ v then
    set (s.mapNet (fun n => n.putLevel q v))
    notify q v
  else pure ()

/-- The value of a level expression. -/
def LevelExpr.eval (e : LevelExpr) (value : Nat) (n : Net) : Level :=
  match e with
  | .const l => l
  | .note b => Level.ofBool (value.testBit b)
  | .pin p => n.levelOf p
  | .not e => Level.ofBool !(e.eval value n).toBool
  | .and e f => Level.ofBool ((e.eval value n).toBool && (f.eval value n).toBool)
  | .or e f => Level.ofBool ((e.eval value n).toBool || (f.eval value n).toBool)

/-- The number that expressions give, the first as bit 0. -/
def bitsValue (value : Nat) (n : Net) : List LevelExpr → Nat
  | [] => 0
  | e :: rest => (if e.eval value n = .high then 1 else 0) + 2 * bitsValue value n rest

/-- What the CPU and sinks change levels with, at one depth of nesting: the setters of a pin (R202) and of a bus (R223). -/
structure Wiring where
  setLevel : PinId → Level → NetM Bool
  writeBus : BusId → Nat → NetM Bool

/-- Whether a component may write a bus: it must own every pin of it (R208). -/
def checkBusOwner (who : Owner) (b : BusId) : NetM Unit := do
  let ps ← busPinsOf b
  ps.forM (checkOwner who)

/-- A sink's call with a value, for the component that registered it (R206, R208). `tick` is the CPU's step. -/
def runSink (tick : Wiring → NetM Unit) (w : Wiring) (who : Owner) (value : Nat) : Sink → NetM Unit
  | .done => pure ()
  | .setLevel p e next => do
    checkOwner who p
    let s ← get
    let _ ← w.setLevel p (e.eval value s.net)
    runSink tick w who value next
  | .setDirection p d next => do
    setDirection who p d
    runSink tick w who value next
  | .writeBus b bits next => do
    checkBusOwner who b
    let s ← get
    let _ ← w.writeBus b (bitsValue value s.net bits)
    runSink tick w who value next
  | .turnBus b d next => do
    busDirection who b d
    runSink tick w who value next
  | .readBus b next => do
    let _ ← busValue b
    runSink tick w who value next
  | .branch e yes no next => do
    let s ← get
    if e.eval value s.net = .high then runSink tick w who value yes else runSink tick w who value no
    runSink tick w who value next
  | .clock next => do
    let s ← get
    let edge : Bool := match s.params.clockEdge with | .rising => true | .falling => false
    if value.testBit 0 = edge then tick w else pure ()
    runSink tick w who value next

/-- The call of a pin's sink by propagation (R206, R210): the sink, if the pin has one, is called with the new level. -/
def callSink (tick : Wiring → NetM Unit) (w : Wiring) (q : PinId) (v : Level) : NetM Unit := do
  let s ← get
  match s.net.sinkOf q, s.net.ownerOf q with
  | some k, some who =>
    set (s.mapNet (fun n => { n with notes := .pin q v :: n.notes }))
    runSink tick w who (if v = .high then 1 else 0) k
  | _, _ => pure ()

/-- `Pin.level(p, v)` (R202), with `update` for `Wire.update`. -/
def changeLevel (p : PinId) (v : Level) (update : NetM Unit) : NetM Bool := do
  let s ← get
  match s.net.directionOf p with
  | none => refuse .noSuchObject
  | some .input => raiseFault (.invalidDirectionPin p)
  | some .hiZ => pure false
  | some .output =>
    if s.net.levelOf p = v then pure false
    else
      set (s.mapNet (fun n => n.putLevel p v))
      update
      pure true

/-- What follows from changes of the pins `sources`. Where it ends in a `PropagationOverflow`, the levels of the pins reachable
from them are left open: every call the overflow aborts, from the innermost to the outermost, has a source of its own, and the
nets of all are involved (R214). -/
def involving {α : Type} (sources : List PinId) (call : NetM α) : NetM α :=
  tryCatch call fun e => do
    match e with
    | .fault (.propagationOverflow _) =>
      modify (fun s => s.mapNet (fun n => sources.foldl (fun m p => m.unsettle p s.faultLog.length) n))
      throw e
    | _ => throw e

/-- `PropagationOverflow` at pin `p` (R214): the depth is one more than the bound. -/
def overflow (p : PinId) : NetM Unit := do
  let s ← get
  raiseFault (.propagationOverflow p (s.params.maxDepth + 1))

/-- `Wire.update` of pin `p` (R210), `notify` being the call of a sink. -/
def updateWire (order : Nat → Nat) (notify : PinId → Level → NetM Unit) (p : PinId) : NetM Unit := do
  let members := (netOf (← get).net.links p).filter (fun q => decide (q ≠ p))
  visitAll order (visitPin (fun s => s.net.levelOf p) notify) members.length members

/-- The bits of a bus write, in ascending index order (R223): whether any pin changed. -/
def writeBits (setLevel : PinId → Level → NetM Bool) (v : Nat) : List PinId → NetM Bool
  | [] => pure false
  | p :: rest => do
    let changed ← setLevel p (Level.ofBool (v.testBit 0))
    let later ← writeBits setLevel (v / 2) rest
    pure (changed || later)

/-- `Bus.value(b, n)` (R223): the checks, the bits, and, if a pin changed, the one aggregate notification, which `heard`
carries out with the value written. -/
def writeBusWith (setLevel : PinId → Level → NetM Bool) (heard : BusSink → List PinId → Nat → NetM Unit) (b : BusId)
    (value : Nat) : NetM Bool := do
  let ps ← busPinsOf b
  match (← get).net.sharedDirection ps with
  | none => raiseFault (.busDirectionMismatch b)
  | some .input => raiseFault (.invalidDirectionBus b)
  | some .hiZ => pure false
  | some .output =>
    let v := value % 2 ^ ps.length
    let changed ← writeBits setLevel v ps
    let s ← get
    match s.net.busSink b with
    | some k =>
      if changed then
        set (s.mapNet (fun n => { n with notes := .bus b v :: n.notes }))
        heard k ps v
      else pure ()
    | none => pure ()
    pure changed

/-- The bus setter over a pin setter, with as many aggregate notifications nested in one another as the number. Past
them the record of the overflow names the bus's first pin, with the depth one above the bound: both are DESIGN CHOICE (log entry
11). -/
def busSetter (tick : Wiring → NetM Unit) (setLevel : PinId → Level → NetM Bool) : Nat → BusId → Nat → NetM Bool
  | 0 => writeBusWith setLevel (fun _ ps _ => involving ps (overflow (ps.headD .rw)))
  | k + 1 =>
    let inner : Wiring := { setLevel := setLevel, writeBus := busSetter tick setLevel k }
    writeBusWith setLevel (fun sink ps v => involving ps (runSink tick inner sink.owner v sink.sink))

/-- The setters, with as many levels of nesting left as the number; `bound` is `MAX_PROPAGATION_DEPTH` (R202, R210, R214). -/
def wiring (tick : Wiring → NetM Unit) (order : Nat → Nat) (bound : Nat) : Nat → Wiring
  | 0 =>
    let setter := fun p v => changeLevel p v (involving [p] (overflow p))
    { setLevel := setter, writeBus := busSetter tick setter bound }
  | fuel + 1 =>
    let notify := callSink tick (wiring tick order bound fuel)
    let setter := fun p v => changeLevel p v (involving [p] (updateWire order notify p))
    { setLevel := setter, writeBus := busSetter tick setter bound }

/-! ### Wiring buses (R225, R226) -/

/-- Link the pins of `a` to those of `b` that `f` gives, in index order (R225, R226). -/
def connectPins (b : List PinId) (f : Nat → Option Nat) : Nat → List PinId → NetM Unit
  | _, [] => pure ()
  | i, p :: rest => do
    match f i with
    | none => pure ()
    | some j =>
      match b[j]? with
      | some q => connect p q
      | none => refuse .noSuchObject
    connectPins b f (i + 1) rest

/-- `Bus.connect(a, b)` (R225). -/
def busConnect (a b : BusId) : NetM Unit := do
  let ps ← busPinsOf a
  let qs ← busPinsOf b
  if ps.length = qs.length then connectPins qs some 0 ps else raiseFault (.busWidthMismatch a b)

/-- `Bus.connect(a, b, f)` (R226); `none` is SKIP. -/
def busConnectMap (a b : BusId) (f : Nat → Option Nat) : NetM Unit := do
  let ps ← busPinsOf a
  let qs ← busPinsOf b
  connectPins qs f 0 ps

end Sys2Proof.Machine
end

