-- ==== Sys2Proof/Machine/Connectors.lean ====
section
/-! DEFINITION. Connectors (40_signal_network.md section 4). A link of a connection is written with the MALE side's pin
first, so that `connect(c, d)` and `connect(d, c)` leave the same state (R231). -/

namespace Sys2Proof.Machine

/-- `Connector.create` (R230). -/
def connectorCreate (name : String) (g : Gender) (ps : List PinId) : NetM Nat := do
  let s ← get
  if ps.all (fun p => decide (s.net.directionOf p ≠ none)) then
    set (s.mapNet (fun n =>
      { n with connectors := n.connectors ++ [{ name := name, gender := g, pins := ps, peer := none }] }))
    pure s.net.connectors.length
  else refuse .noSuchObject

/-- The connector with a number, or a refusal. -/
def connectorAt (c : Nat) : NetM Connector := do
  match (← get).net.connectors[c]? with
  | some k => pure k
  | none => refuse .noSuchObject

/-- The origin of the links of a connection, MALE side first. -/
def bindOrigin (c : Nat) (cc : Connector) (d : Nat) : LinkOrigin :=
  match cc.gender with
  | .male => .connector c d
  | .female => .connector d c

/-- The positional links of R231's loop. -/
def bindLinks (origin : LinkOrigin) : List PinId → List PinId → List Link → List Link
  | p :: ps, q :: qs, links => bindLinks origin ps qs (addLink links { p := p, q := q, origin := origin })
  | _, _, links => links

/-- The links with the pins of two connectors bound (R231). -/
def bindPair (links : List Link) (c : Nat) (cc : Connector) (d : Nat) (dd : Connector) : List Link :=
  match cc.gender with
  | .male => bindLinks (bindOrigin c cc d) cc.pins dd.pins links
  | .female => bindLinks (bindOrigin c cc d) dd.pins cc.pins links

/-- The links without those of a connection (R232). -/
def unbindLinks (links : List Link) (origin : LinkOrigin) : List Link := links.filter (fun l => decide (l.origin ≠ origin))

/-- The network with `f` applied to connector `c`. -/
def Net.modifyConnector (n : Net) (c : Nat) (f : Connector → Connector) : Net :=
  { n with connectors := n.connectors.modify c f }

/-- `Connector.connect` (R231): gender first, then busy (R702). -/
def connectorConnect (c d : Nat) : NetM Unit := do
  let cc ← connectorAt c
  let dd ← connectorAt d
  if cc.gender = dd.gender then raiseFault (.genderMismatch c d)
  else if cc.peer ≠ none ∨ dd.peer ≠ none then raiseFault (.connectorBusy c d)
  else
    modify (fun s => s.mapNet (fun n =>
      ({ n with links := bindPair n.links c cc d dd }.modifyConnector c (fun k => { k with peer := some d })).modifyConnector
        d (fun k => { k with peer := some c })))

/-- `Connector.disconnect` (R232). -/
def connectorDisconnect (c : Nat) : NetM Unit := do
  let cc ← connectorAt c
  match cc.peer with
  | none => pure ()
  | some d =>
    modify (fun s => s.mapNet (fun n =>
      ({ n with links := unbindLinks n.links (bindOrigin c cc d) }.modifyConnector c
        (fun k => { k with peer := none })).modifyConnector d (fun k => { k with peer := none })))

/-- `Connector.addPin` (R233). -/
def connectorAddPin (c : Nat) (p : PinId) : NetM Unit := do
  checkPin p
  let cc ← connectorAt c
  modify (fun s => s.mapNet (fun n => n.modifyConnector c (fun k => { k with pins := k.pins ++ [p] })))
  match cc.peer with
  | none => pure ()
  | some d =>
    let dd ← connectorAt d
    match dd.pins[cc.pins.length]? with
    | none => pure ()
    | some q =>
      let l : Link :=
        match cc.gender with
        | .male => { p := p, q := q, origin := bindOrigin c cc d }
        | .female => { p := q, q := p, origin := bindOrigin c cc d }
      modify (fun s => s.mapNet (fun n => { n with links := addLink n.links l }))

/-- `Connector.removePin` (R234): the binding is made again at the new indices. -/
def connectorRemovePin (c : Nat) (p : PinId) : NetM Unit := do
  let cc ← connectorAt c
  if cc.pins.contains p then
    let cc' : Connector := { cc with pins := cc.pins.erase p }
    modify (fun s => s.mapNet (fun n => n.modifyConnector c (fun _ => cc')))
    match cc.peer with
    | none => pure ()
    | some d =>
      let dd ← connectorAt d
      modify (fun s => s.mapNet (fun n =>
        { n with links := bindPair (unbindLinks n.links (bindOrigin c cc d)) c cc' d dd }))
  else pure ()

end Sys2Proof.Machine
end

