-- ==== Sys2Proof/Machine/PinLevel.lean ====
section
/-! DEFINITION. The pin level (40_signal_network.md section 5; 41_sequencer.md R326): `step()` carried out by setting the
CPU's pins in the order of R261 on the network, with every propagation, and the network's calls with the CPU on it.

The rows are those of Machine/Micro.lean, so the two levels differ only in how a transaction reaches the platform. Where
the platform is memory, it is a component on the network (log entry 12): it owns eight pins wired to D0-D7, drives them while
RW is HIGH and takes their settled levels at the end of a write cycle (R771). Where no component drives, the byte read is
what the network has left on D (R260, R114). -/

namespace Sys2Proof.Machine

/-- The state with `f` applied to the CPU's pins. -/
def State.mapPins (s : State) (f : CpuPins → CpuPins) : State := s.mapNet (fun n => { n with cpu := f n.cpu })

/-- The directions of a read cycle, of the read part of a write cycle and of an idle step, with AEC high (R71, R262). -/
def CpuPins.listening (p : CpuPins) : CpuPins :=
  { p with addrDir := allPins .output, rwDir := .output, dataDir := allPins .input }

/-- The directions of the last part of a write cycle (R261). -/
def CpuPins.writing (p : CpuPins) : CpuPins := { p with dataDir := allPins .output }

/-- A pin of the memory made to carry a level to its net: a pin that holds the level already is set to the other level
first, since a pin that turns OUTPUT does not drive what it holds (R757, R770). -/
def redrive (w : Wiring) (p : PinId) (v : Level) : NetM Unit := do
  checkOwner .memory p
  let s ← get
  if s.net.levelOf p = v then
    let _ ← w.setLevel p (Level.ofBool !v.toBool)
  let _ ← w.setLevel p v

/-- The memory drives the bits of a byte on its pins, in ascending order. -/
def driveByte (w : Wiring) (v : Nat) : List PinId → NetM Unit
  | [] => pure ()
  | p :: rest => do
    redrive w p (Level.ofBool (v.testBit 0))
    driveByte w (v / 2) rest

/-- The memory releases the data nets: its pins are inputs. -/
def releaseMemory : NetM Unit := do
  let s ← get
  setDirections .memory .input s.net.memoryPins

/-- What the memory does while RW is HIGH and the address has settled: it drives its byte where it answers, and listens
elsewhere. -/
def memoryDrives (w : Wiring) (addr : Word) : NetM Unit := do
  let s ← get
  match s.regionAt addr with
  | .external => releaseMemory
  | _ =>
    setDirections .memory .output s.net.memoryPins
    driveByte w (s.mem.read addr.toNat).toNat s.net.memoryPins

/-- What the memory does when a write cycle has settled: RAM on the network stores the levels of its pins. -/
def memoryStores (addr : Word) : NetM Unit := do
  let s ← get
  match s.regionAt addr, s.net.memoryPins with
  | .ram, p :: rest => set { s with mem := s.mem.write addr.toNat (BitVec.ofNat 8 (s.net.valueOf (p :: rest))) }
  | _, _ => pure ()

/-- The read part of a cycle with AEC high: steps 1 to 3 of R261, and the memory's answer. -/
def pinAddress (w : Wiring) (addr : Word) : NetM Unit := do
  modify (fun s => s.mapPins CpuPins.listening)
  let _ ← w.setLevel .rw .high
  let _ ← w.writeBus .cpuAddr addr.toNat
  memoryDrives w addr

/-- A cycle with AEC low: the CPU and the memory release the bus (R262, R311). -/
def pinRelease : NetM Unit := do
  modify (fun s => s.mapPins CpuPins.released)
  releaseMemory

/-- A read cycle on the pins (R260, R261), or with AEC low (R262, R311): the byte it returns. -/
def pinRead (w : Wiring) (addr : Word) : NetM Byte := do
  let s ← get
  if s.aecLow then
    pinRelease
    pure (Config.aecRead s.cycleCounter)
  else
    pinAddress w addr
    let v ← busValue .cpuData
    pure (BitVec.ofNat 8 v)

/-- A write cycle on the pins (R260, R261), or with AEC low, when it is lost (R262, R311). -/
def pinWrite (w : Wiring) (addr : Word) (v : Byte) : NetM Unit := do
  let s ← get
  if s.aecLow then pinRelease
  else
    pinAddress w addr
    let _ ← w.setLevel .rw .low
    releaseMemory
    modify (fun s => s.mapPins CpuPins.writing)
    let _ ← w.writeBus .cpuData v.toNat
    memoryStores addr

/-- An idle step on the pins (R312, R71). With AEC low the memory releases the bus too; with AEC high the memory's pins stay as
they are, as no transaction reaches it (log entry 12). -/
def pinIdle (w : Wiring) : NetM Unit := do
  let s ← get
  if s.aecLow then pinRelease
  else
    set (s.mapPins CpuPins.listening)
    let _ ← w.setLevel .rw .high
    pure ()

/-- The bookkeeping of a micro-cycle whose pins have settled; `found` is the state the step found, which says whether AEC or
RDY was low. -/
def State.countPinCycle (s found : State) (addr : Word) (rw : Rw) (v : Byte) : State :=
  { s with
    cycleCounter := s.cycleCounter + 1
    trace := { addr := addr, rw := rw, data := v, delivered := !found.aecLow } :: s.trace
    platform := { found with platform := s.platform }.observe addr rw v
    micro := { s.micro with
      decodeCycle := s.micro.decodeCycle + 1
      disturbed := s.micro.disturbed || found.aecLow || found.rdyLow } }

/-- `step()` on the pins (R300, R326). -/
def pinStepWith (w : Wiring) : NetM Unit := do
  match (← get).prelude with
  | .idle s =>
    set s
    pinIdle w
  | .run s =>
    set s
    match s.currentRow with
    | .read addr after =>
      if s.rdyLow then
        set { s with micro := { s.micro with disturbed := s.micro.disturbed || decide (s.micro.stage ≠ Stage.opcode) } }
        pinIdle w
      else
        let v ← pinRead w addr
        modify (fun t => after v (t.countPinCycle s addr .read v))
    | .write addr v after =>
      pinWrite w addr v
      modify (fun t => after (t.countPinCycle s addr .write v))

/-! ### The calls of the network with the CPU on it -/

/-- The wiring of an outermost call: nesting up to `MAX_PROPAGATION_DEPTH`, on a network that no overflow has unsettled
(R214). -/
def withWiring {α : Type} (order : Nat → Nat) (f : Wiring → NetM α) : NetM α := do
  let s ← get
  if s.net.unsettled then refuse .unsettled
  else f (wiring pinStepWith order s.params.maxDepth s.params.maxDepth)

/-- `Pin.level(p, v)`, called by the pin's owner (R202). -/
def setLevel (order : Nat → Nat) (who : Owner) (p : PinId) (v : Level) : NetM Bool := do
  checkOwner who p
  withWiring order (fun w => w.setLevel p v)

/-- `Pin.level(p)` (R203). -/
def getLevel (p : PinId) : NetM Level := do
  checkPin p
  pure ((← get).net.levelOf p)

/-- `Bus.value(b, n)`, called by the owner of the bus's pins (R223). -/
def busWrite (order : Nat → Nat) (who : Owner) (b : BusId) (value : Nat) : NetM Bool := do
  checkBusOwner who b
  withWiring order (fun w => w.writeBus b value)

/-- The host's call of `step()` at the pin level (R326). -/
def pinStep (order : Nat → Nat) : NetM Unit := withWiring order pinStepWith

/-! ### The memory as a component (R103, R225; log entry 12) -/

/-- One pin of the memory for each pin of a list, wired to it. -/
def attachMemoryPins : List (Fin 8) → NetM (List PinId)
  | [] => pure []
  | i :: rest => do
    let p ← pinCreate .memory "DATA" .input
    connect (.data i) p
    let more ← attachMemoryPins rest
    pure (p :: more)

/-- The memory joins the network: eight pins of its own, each wired to a data pin of the CPU. -/
def attachMemory : NetM Unit := do
  let pins ← attachMemoryPins (List.finRange 8)
  modify (fun s => s.mapNet (fun n => { n with memoryPins := pins }))

end Sys2Proof.Machine
end

