-- ==== Sys2Proof/Machine/HostIface.lean ====
section
/-! DEFINITION. The host interface (60_exceptions.md section 5): memory image load, introspection, step control, and what
the outside world may do between two steps: the levels of the control pins (R743) and, while AEC is low, the accesses of
other bus masters (R116). -/

namespace Sys2Proof.Machine

/-- `isHalted()` (R67, R743). -/
def State.isHalted (s : State) : Bool := s.resetHeld || s.jammed

/-- The bytes of an image, stored in increasing order, addresses modulo 2^16 (R113). What a byte loaded outside
RAM and ROM does is the platform's business. -/
def State.storeImage (s : State) (base : Word) : List Byte → State
  | [] => s
  | b :: rest =>
    match s.regionAt base with
    | .external => { s with platform := Config.platformLoad s.platform base b }.storeImage (base + 1) rest
    | _ => { s with mem := s.mem.write base.toNat b }.storeImage (base + 1) rest

/-- No step has begun execution (R113; D34). The creation of the core leaves a reset pending (R67); the first step that finds
RESET high clears it, even one that RDY then stalls, and a step that finds RESET low leaves the CPU halted (log entry 19). -/
def State.beforeExecution (s : State) : Bool := s.resetPending && decide (s.cycleCounter = 0)

/-- `load(base, bytes)` (R113, R740): only before execution starts or while halted. A load into ROM succeeds (log
entry 10). -/
def load (base : Word) (bytes : List Byte) : NetM Unit := do
  let s ← get
  if s.isHalted || s.beforeExecution then set (s.storeImage base bytes) else refuse .loadWhileRunning

/-- What register introspection returns (R741). -/
structure Introspection where
  pc : Word
  ac : Byte
  xr : Byte
  yr : Byte
  sp : Byte
  sr : Byte
  flags : Flags
  deriving DecidableEq, Repr

/-- Register introspection (R741, R57): bits 5 and 4 of SR read 1. -/
def State.introspect (s : State) : Introspection :=
  { pc := s.pc, ac := s.a, xr := s.x, yr := s.y, sp := s.sp, sr := s.p.pack true, flags := s.p }

/-- Counter introspection (R742): the cycle counter and the address of the last opcode fetch. -/
def State.counters (s : State) : Nat × Word := (s.cycleCounter, s.lastOpcodeAddr)

/-- `fastForward(n)` (R324, R743). -/
def fastForward (n : Nat) (s : State) : State := microSteps n s

/-- The CPU's input pins, which the host drives (R743). -/
inductive ControlPin
  | reset
  | irq
  | rdy
  | aec
  | phi0
  deriving DecidableEq, Repr

/-- The CPU's pin. -/
def ControlPin.pin : ControlPin → PinId
  | .reset => .reset
  | .irq => .irq
  | .rdy => .rdy
  | .aec => .aec
  | .phi0 => .phi0

/-- The host makes a pin of its own and wires it to an input of the CPU (R743). -/
def attachControl (c : ControlPin) : NetM PinId := do
  let p ← pinCreate .host "CONTROL" .output
  connect p c.pin
  pure p

/-- The first pin the host drives on the net of one of the CPU's inputs. -/
def Net.hostPin (n : Net) (c : ControlPin) : Option PinId :=
  (netOf n.links c.pin).find? (fun q => decide (n.ownerOf q = some .host ∧ n.directionOf q = some .output))

/-- The host sets a level on an input of the CPU, through the pin of its own that is wired there (R743, R208). -/
def drivePin (order : Nat → Nat) (c : ControlPin) (l : Level) : NetM Bool := do
  let s ← get
  match s.net.hostPin c with
  | some p => setLevel order .host p l
  | none => refuse .noSuchObject

/-- The byte another bus master reads: memory's, or the rest of the platform's answer (R116, R114). -/
def State.masterByte (s : State) (addr : Word) : Byte :=
  match s.regionAt addr with
  | .external => Config.platformRead s.platform addr
  | _ => s.mem.read addr.toNat

/-- Another bus master's read, while AEC is low (R116). The platform sees it, and may change its state (R103), so that no
byte of one read is forced on the next (R114; log entry 13). -/
def masterRead (addr : Word) : NetM Byte := do
  let s ← get
  if s.aecLow then
    let v := s.masterByte addr
    set { s with platform := Config.platformNext s.platform false addr false v }
    pure v
  else refuse .busNotReleased

/-- Another bus master's write, while AEC is low (R116). The platform sees it (R103). -/
def masterWrite (addr : Word) (v : Byte) : NetM Unit := do
  let s ← get
  if s.aecLow then
    let mem :=
      match s.regionAt addr with
      | .ram => s.mem.write addr.toNat v
      | _ => s.mem
    set { s with mem := mem, platform := Config.platformNext s.platform false addr true v }
  else refuse .busNotReleased

end Sys2Proof.Machine
end

