-- ==== Sys2Proof/Safety.lean ====
section
/-! DEFINITION. The terms claims are made in: a boundary, a state about to run an instruction, the invariant of the step, a
run that never stops; and how a claim says what an instruction does: its bytes, its transactions in order, its registers
and its PC (`Effect`), with the addressing modes as the transactions before the operand's (`Access`). None of it is used
by the machine. -/

namespace Sys2Proof.Machine

/-- The instruction boundary (R315). -/
def State.AtBoundary (s : State) : Prop := s.micro.stage = .opcode ∧ s.jammed = false

/-- The next step fetches an instruction: a boundary, nothing pending, and RESET, RDY high (R300). -/
structure State.Ready (s : State) : Prop where
  stage : s.micro.stage = .opcode
  notJammed : s.jammed = false
  noReset : s.resetPending = false
  noIrq : s.irqPending = false
  resetHigh : s.net.cpu.reset = .high
  rdyHigh : s.net.cpu.rdy = .high

/-- What every step keeps. -/
structure State.Inv (s : State) : Prop where
  /-- Memory is in canonical form. -/
  memory : s.mem.wf = true
  /-- Each micro-cycle counted is one transaction of the trace (R102, R305, R314). -/
  counted : s.trace.length = s.cycleCounter
  /-- A sequence is at most eight cycles long (R61). -/
  cycles : s.micro.decodeCycle ≤ 8
  /-- The last cycle of a sequence ends it (R301). -/
  unfinished : s.micro.stage = .decode → s.micro.decodeCycle ≤ 7
  /-- EXECUTE takes no step of its own (R304). -/
  noExecute : s.micro.stage ≠ .execute
  /-- A held reset is pending (R308). -/
  held : s.resetHeld = true → s.resetPending = true
  /-- A pending reset waits at a boundary (R308, R309). -/
  pending : s.resetPending = true → s.micro.stage = .opcode ∧ s.jammed = false
  /-- A jammed CPU has no sequence in progress (R313). -/
  jam : s.jammed = true → s.micro.stage = .opcode
  /-- No record of the fault log is later than now (R68). -/
  faults : ∀ r ∈ s.faultLog, r.cycle ≤ s.cycleCounter

/-- A run of `n` steps that no fault and no refusal ends. -/
def State.RunsFor (n : Nat) (s : State) : Prop :=
  match n with
  | 0 => True
  | n + 1 => ∃ t, step s = .next t ∧ State.RunsFor n t

/-! ### The CPU alone with its memory on the network -/

/-- The links that wire the CPU's data pins to eight pins, D0 first. -/
def dataLinks (pins : List PinId) : List Link :=
  ((List.finRange 8).map PinId.data).zipWith (fun p q => { p := p, q := q, origin := .direct }) pins

/-- Nothing is wired to the CPU but the platform's memory, to its data pins; no pin or bus of those nets has a sink. -/
structure State.OnlyMemoryWired (s : State) : Prop where
  settled : s.net.unsettled = false
  eight : s.net.memoryPins.length = 8
  distinct : s.net.memoryPins.Nodup
  owned : ∀ p ∈ s.net.memoryPins, s.net.ownerOf p = some .memory
  links : s.net.links = dataLinks s.net.memoryPins
  noBusSink : s.net.addrSink = none ∧ s.net.dataSink = none
  noDataSink : ∀ i : Fin 8, s.net.sinkOf (.data i) = none
  noMemorySink : ∀ p ∈ s.net.memoryPins, s.net.sinkOf p = none

/-! ### What an instruction does -/

/-- The programmer's registers but PC (R50 to R56). -/
structure Regs where
  a : Byte
  x : Byte
  y : Byte
  sp : Byte
  p : Flags
  deriving DecidableEq, Repr

/-- The registers of a state. -/
def State.regs (s : State) : Regs := { a := s.a, x := s.x, y := s.y, sp := s.sp, p := s.p }

/-- A transaction as a row of a bus trace: address, direction, byte (R102). -/
abbrev Bus := Word × Rw × Byte

/-- A read transaction. -/
def rd (addr : Word) (v : Byte) : Bus := (addr, .read, v)

/-- A write transaction. -/
def wr (addr : Word) (v : Byte) : Bus := (addr, .write, v)

/-- The trace's record of a transaction in a state that keeps its AEC level. -/
def State.txn (s : State) (b : Bus) : Txn := { addr := b.1, rw := b.2.1, data := b.2.2, delivered := !s.aecLow }

/-- Whether a write at an address is kept: AEC high and RAM there (R103, R311). -/
def State.keeps (s : State) (addr : Word) : Bool := !s.aecLow && decide (s.regionAt addr = .ram)

/-- The byte at address `a` after transactions, `v` being the byte before them: that of the last write to `a` that was
kept. Every other byte is as before. -/
def State.byteAfter (s : State) (a : Nat) : List Bus → Byte → Byte
  | [], v => v
  | b :: rest, v =>
    s.byteAfter a rest (if b.2.1 = .write ∧ b.1.toNat = a ∧ s.keeps b.1 = true then b.2.2 else v)

/-- The state of the rest of the platform after transactions of the CPU (R103). -/
def State.platformAfter (s : State) (done : List Bus) : Nat :=
  if s.aecLow then s.platform
  else done.foldl (fun p b => Config.platformNext p true b.1 (decide (b.2.1 = .write)) b.2.2) s.platform

/-- The byte the next read at `addr` returns, once the transactions `done` are performed. -/
def State.seen (s : State) (done : List Bus) (addr : Word) : Byte :=
  if s.aecLow then Config.aecRead (s.cycleCounter + done.length)
  else
    match s.regionAt addr with
    | .external => Config.platformRead (s.platformAfter done) addr
    | _ => s.byteAfter addr.toNat done (s.mem.read addr.toNat)

/-- Transactions with read cycles after them, each at its address. -/
def State.reads (s : State) (done : List Bus) : List Word → List Bus
  | [] => done
  | addr :: rest => s.reads (done ++ [rd addr (s.seen done addr)]) rest

/-- What an instruction does from a boundary to the next: its bytes, its transactions in the order of their cycles, the
registers it leaves, and PC. -/
structure Effect where
  code : List Byte
  bus : List Bus
  regs : Regs
  pc : Word
  deriving DecidableEq, Repr

/-- What no instruction changes: the host's side of the machine and the network, the CPU's address, data and RW pins
apart. -/
structure State.SameOutside (s t : State) : Prop where
  resetHeld : t.resetHeld = s.resetHeld
  resetPending : t.resetPending = s.resetPending
  map : t.map = s.map
  params : t.params = s.params
  controlPins : t.net.cpu.reset = s.net.cpu.reset ∧ t.net.cpu.irq = s.net.cpu.irq ∧ t.net.cpu.phi0 = s.net.cpu.phi0 ∧
    t.net.cpu.aec = s.net.cpu.aec ∧ t.net.cpu.rdy = s.net.cpu.rdy
  network : { t.net with cpu := s.net.cpu } = s.net

/-- The instruction's bytes are those of the effect, and `exec` answers a next state, at a boundary, with exactly the
effect's registers, PC, transactions, memory and platform state. -/
def Completes (i : Instr) (s : State) (e : Effect) : Prop :=
  encode i = e.code ∧
  ∃ t, exec i s = .next t ∧ t.regs = e.regs ∧ t.pc = e.pc ∧
    t.cycleCounter = s.cycleCounter + e.bus.length ∧ t.trace = (e.bus.map s.txn).reverse ++ s.trace ∧
    (∀ a, t.mem.read a = s.byteAfter a e.bus (s.mem.read a)) ∧ t.platform = s.platformAfter e.bus ∧
    t.lastOpcodeAddr = s.pc ∧ t.micro.stage = .opcode ∧ t.jammed = s.jammed ∧ t.faultLog = s.faultLog ∧ s.SameOutside t

/-! ### Addressing modes as transactions (R354 to R361) -/

/-- An access: the instruction's bytes, the transactions before the operand's, and the effective address. -/
structure Access where
  code : List Byte
  head : List Bus
  ea : Word
  deriving DecidableEq, Repr

/-- The transactions of the fetches of a one-byte, two-byte or three-byte instruction (R350). -/
def State.fetches (s : State) : List Byte → List Bus
  | [op] => [rd s.pc op]
  | [op, b] => [rd s.pc op, rd (s.pc + 1) b]
  | [op, lo, hi] => [rd s.pc op, rd (s.pc + 1) lo, rd (s.pc + 2) hi]
  | _ => []

/-- The bytes of a three-byte instruction (R105). -/
def code3 (op : Byte) (addr : Word) : List Byte := [op, loByte addr, hiByte addr]

/-- Zero page (R354). -/
def State.viaZp (s : State) (op zp : Byte) : Access :=
  { code := [op, zp], head := s.fetches [op, zp], ea := zpAddr zp }

/-- Zero page indexed by `index` (R355, R356). -/
def State.viaZpIndexed (s : State) (op zp index : Byte) : Access :=
  { code := [op, zp], head := s.reads (s.fetches [op, zp]) [zpAddr zp], ea := zpAddr (zp + index) }

/-- Absolute (R357). -/
def State.viaAbs (s : State) (op : Byte) (addr : Word) : Access :=
  { code := code3 op addr, head := s.fetches (code3 op addr), ea := addr }

/-- Absolute indexed, classes W and M: a dummy read at the unfixed address (R358, R359). -/
def State.viaAbsIndexed (s : State) (op : Byte) (addr : Word) (index : Byte) : Access :=
  { code := code3 op addr
    head := s.reads (s.fetches (code3 op addr)) [unfixed addr index]
    ea := indexed addr index }

/-- Absolute indexed, class R: the dummy read only on a page crossing (R358, R359). -/
def State.viaAbsIndexedRead (s : State) (op : Byte) (addr : Word) (index : Byte) : Access :=
  { s.viaAbsIndexed op addr index with
    head := s.reads (s.fetches (code3 op addr)) (if crosses addr index then [unfixed addr index] else []) }

/-- (zp,X) (R360). -/
def State.viaIzx (s : State) (op zp : Byte) : Access :=
  let p := zpAddr (zp + s.x)
  let q := zpAddr (zp + s.x + 1)
  let h3 := s.reads (s.fetches [op, zp]) [zpAddr zp]
  let h4 := s.reads h3 [p]
  { code := [op, zp], head := s.reads h4 [q], ea := mkWord (s.seen h4 q) (s.seen h3 p) }

/-- The transactions of (zp),Y up to the pointer's low byte (R361). -/
def State.izyLow (s : State) (op zp : Byte) : List Bus := s.reads (s.fetches [op, zp]) [zpAddr zp]

/-- The transactions of (zp),Y up to the pointer's high byte (R361). -/
def State.izyHead (s : State) (op zp : Byte) : List Bus := s.reads (s.izyLow op zp) [zpAddr (zp + 1)]

/-- The base address of (zp),Y (R361). -/
def State.izyBase (s : State) (op zp : Byte) : Word :=
  mkWord (s.seen (s.izyLow op zp) (zpAddr (zp + 1))) (s.seen (s.fetches [op, zp]) (zpAddr zp))

/-- (zp),Y, classes W and M (R361). -/
def State.viaIzy (s : State) (op zp : Byte) : Access :=
  { code := [op, zp]
    head := s.reads (s.izyHead op zp) [unfixed (s.izyBase op zp) s.y]
    ea := indexed (s.izyBase op zp) s.y }

/-- (zp),Y, class R (R361). -/
def State.viaIzyRead (s : State) (op zp : Byte) : Access :=
  { s.viaIzy op zp with
    head := s.reads (s.izyHead op zp) (if crosses (s.izyBase op zp) s.y then [unfixed (s.izyBase op zp) s.y] else []) }

/-- PC after an instruction's bytes. -/
def State.pcAfter (s : State) (code : List Byte) : Word := s.pc + BitVec.ofNat 16 code.length

/-- The byte an access of class R or M reads. -/
def State.operandAt (s : State) (m : Access) : Byte := s.seen m.head m.ea

/-- A read-class instruction completes: the last cycle reads the operand, and `f` gives the registers. -/
def Reads (i : Instr) (s : State) (m : Access) (f : Regs → Byte → Regs) : Prop :=
  Completes i s
    { code := m.code, bus := m.head ++ [rd m.ea (s.operandAt m)], regs := f s.regs (s.operandAt m),
      pc := s.pcAfter m.code }

/-- An immediate instruction completes (R353). -/
def ReadsImm (i : Instr) (s : State) (op imm : Byte) (f : Regs → Byte → Regs) : Prop :=
  Completes i s
    { code := [op, imm], bus := s.fetches [op, imm], regs := f s.regs imm, pc := s.pcAfter [op, imm] }

/-- A write-class instruction completes: the last cycle writes `v`, and no register changes. -/
def Writes (i : Instr) (s : State) (m : Access) (v : Byte) : Prop :=
  Completes i s { code := m.code, bus := m.head ++ [wr m.ea v], regs := s.regs, pc := s.pcAfter m.code }

/-- A read-modify-write instruction completes: read, write back, write `(f regs m).1`; the registers are
`(f regs m).2` (R354). -/
def Modifies (i : Instr) (s : State) (m : Access) (f : Regs → Byte → Byte × Regs) : Prop :=
  let v := s.operandAt m
  Completes i s
    { code := m.code, bus := m.head ++ [rd m.ea v, wr m.ea v, wr m.ea (f s.regs v).1], regs := (f s.regs v).2,
      pc := s.pcAfter m.code }

/-- An implied or accumulator instruction completes: a dummy read of the next byte (R351, R352). -/
def Implied (i : Instr) (s : State) (op : Byte) (f : Regs → Regs) : Prop :=
  Completes i s
    { code := [op], bus := s.reads [rd s.pc op] [s.pc + 1], regs := f s.regs, pc := s.pcAfter [op] }

/-! ### Operations on the registers (43_ to 46_) -/

/-- The registers with N and Z from a byte (R450). -/
def Regs.nz (r : Regs) (v : Byte) : Regs := { r with p := { r.p with n := v.getLsbD 7, z := decide (v = 0) } }

/-- The registers with another carry. -/
def Regs.withC (r : Regs) (c : Bool) : Regs := { r with p := { r.p with c := c } }

def Regs.lda (r : Regs) (m : Byte) : Regs := { r with a := m }.nz m
def Regs.ldx (r : Regs) (m : Byte) : Regs := { r with x := m }.nz m
def Regs.ldy (r : Regs) (m : Byte) : Regs := { r with y := m }.nz m
def Regs.lax (r : Regs) (m : Byte) : Regs := { r with a := m, x := m }.nz m
def Regs.las (r : Regs) (m : Byte) : Regs := { r with a := m &&& r.sp, x := m &&& r.sp, sp := m &&& r.sp }.nz (m &&& r.sp)
def Regs.and (r : Regs) (m : Byte) : Regs := r.lda (r.a &&& m)
def Regs.ora (r : Regs) (m : Byte) : Regs := r.lda (r.a ||| m)
def Regs.eor (r : Regs) (m : Byte) : Regs := r.lda (r.a ^^^ m)
def Regs.nop (r : Regs) (_ : Byte) : Regs := r

/-- The registers after an adder's output (R456, R457). -/
def Regs.alu (r : Regs) (o : AluOut) : Regs := { r with a := o.r, p := { r.p with n := o.n, v := o.v, z := o.z, c := o.c } }

/-- ADC (R456). -/
def Regs.adc (r : Regs) (m : Byte) : Regs := r.alu (if r.p.d then addDec r.a m r.p.c else addBin r.a m r.p.c)

/-- SBC (R457). -/
def Regs.sbc (r : Regs) (m : Byte) : Regs := r.alu (if r.p.d then subDec r.a m r.p.c else subBin r.a m r.p.c)

/-- BIT (R464). -/
def Regs.bit (r : Regs) (m : Byte) : Regs :=
  { r with p := { r.p with n := m.getLsbD 7, v := m.getLsbD 6, z := decide (r.a &&& m = 0) } }

/-- `compare(v, m)` (R455). -/
def Regs.compare (r : Regs) (v m : Byte) : Regs := (r.nz (v - m)).withC (decide (m.toNat ≤ v.toNat))

def Regs.cmp (r : Regs) (m : Byte) : Regs := r.compare r.a m
def Regs.cpx (r : Regs) (m : Byte) : Regs := r.compare r.x m
def Regs.cpy (r : Regs) (m : Byte) : Regs := r.compare r.y m

def Regs.inc (r : Regs) (m : Byte) : Byte × Regs := (m + 1, r.nz (m + 1))
def Regs.dec (r : Regs) (m : Byte) : Byte × Regs := (m - 1, r.nz (m - 1))

/-- ASL (R471, R483). -/
def Regs.asl (r : Regs) (m : Byte) : Byte × Regs := (m <<< 1, (r.nz (m <<< 1)).withC (m.getLsbD 7))

/-- LSR (R472, R483). -/
def Regs.lsr (r : Regs) (m : Byte) : Byte × Regs := (m >>> 1, (r.nz (m >>> 1)).withC (m.getLsbD 0))

/-- The byte ROL makes: the carry enters bit 0 (R483). -/
def rolByte (m : Byte) (c : Bool) : Byte := (m <<< 1) ||| (if c then 0x01 else 0x00)

/-- The byte ROR makes: the carry enters bit 7 (R483). -/
def rorByte (m : Byte) (c : Bool) : Byte := (m >>> 1) ||| (if c then 0x80 else 0x00)

/-- ROL (R473). -/
def Regs.rol (r : Regs) (m : Byte) : Byte × Regs :=
  (rolByte m r.p.c, (r.nz (rolByte m r.p.c)).withC (m.getLsbD 7))

/-- ROR (R474). -/
def Regs.ror (r : Regs) (m : Byte) : Byte × Regs :=
  (rorByte m r.p.c, (r.nz (rorByte m r.p.c)).withC (m.getLsbD 0))

/-- An accumulator-mode shift: the result goes to A (R352). -/
def Regs.onA (f : Regs → Byte → Byte × Regs) (r : Regs) : Regs := { (f r r.a).2 with a := (f r r.a).1 }

/-- SLO (R601). -/
def Regs.slo (r : Regs) (m : Byte) : Byte × Regs := (m <<< 1, (r.withC (m.getLsbD 7)).ora (m <<< 1))

/-- RLA (R602). -/
def Regs.rla (r : Regs) (m : Byte) : Byte × Regs := (rolByte m r.p.c, (r.withC (m.getLsbD 7)).and (rolByte m r.p.c))

/-- SRE (R603). -/
def Regs.sre (r : Regs) (m : Byte) : Byte × Regs := (m >>> 1, (r.withC (m.getLsbD 0)).eor (m >>> 1))

/-- RRA: the carry into the addition is bit 0 of the byte (R604). -/
def Regs.rra (r : Regs) (m : Byte) : Byte × Regs := (rorByte m r.p.c, (r.withC (m.getLsbD 0)).adc (rorByte m r.p.c))

/-- DCP (R607). -/
def Regs.dcp (r : Regs) (m : Byte) : Byte × Regs := (m - 1, r.cmp (m - 1))

/-- ISC (R608). -/
def Regs.isc (r : Regs) (m : Byte) : Byte × Regs := (m + 1, r.sbc (m + 1))

/-- ANC (R609). -/
def Regs.anc (r : Regs) (m : Byte) : Regs := (r.and m).withC ((r.a &&& m).getLsbD 7)

/-- ALR (R610). -/
def Regs.alr (r : Regs) (m : Byte) : Regs := (r.lda ((r.a &&& m) >>> 1)).withC ((r.a &&& m).getLsbD 0)

/-- ARR in binary mode (R611). -/
def Regs.arrBin (r : Regs) (m : Byte) : Regs :=
  let v := rorByte (r.a &&& m) r.p.c
  { r with a := v, p := { (r.nz v).p with c := v.getLsbD 6, v := v.getLsbD 6 != v.getLsbD 5 } }

/-- ARR in decimal mode (R611): the two digit fix-ups. -/
def Regs.arrDec (r : Regs) (m : Byte) : Regs :=
  let t := r.a &&& m
  let v := rorByte t r.p.c
  let low : Byte := if (t &&& 0x0F).toNat + (t &&& 0x01).toNat > 0x05 then (v + 0x06) &&& 0x0F else v &&& 0x0F
  let c : Bool := decide ((t &&& 0xF0).toNat + (t &&& 0x10).toNat > 0x50)
  let high : Byte := if c then (v + 0x60) &&& 0xF0 else v &&& 0xF0
  { r with a := high ||| low
           p := { r.p with n := r.p.c, z := decide (v = 0), v := (v ^^^ t).getLsbD 6, c := c } }

/-- ARR (R611). -/
def Regs.arr (r : Regs) (m : Byte) : Regs := if r.p.d then r.arrDec m else r.arrBin m

/-- ANE, whatever its constant (R612). -/
def Regs.ane (r : Regs) (m : Byte) : Regs := r.lda ((r.a ||| Config.aneMagic) &&& r.x &&& m)

/-- LXA, whatever its constant (R613). -/
def Regs.lxa (r : Regs) (m : Byte) : Regs := r.lax ((r.a ||| Config.lxaMagic) &&& m)

/-- SBX: C is not an input and D has no effect (R614). -/
def Regs.sbx (r : Regs) (m : Byte) : Regs := { r.compare (r.a &&& r.x) m with x := (r.a &&& r.x) - m }

/-- The status byte a push writes (R56): bit 5 as 1, bit 4 as `b`. -/
def statusByte (f : Flags) (b : Bool) : Byte :=
  BitVec.ofNat 8 (128 * f.n.toNat + 64 * f.v.toNat + 32 + 16 * b.toNat + 8 * f.d.toNat + 4 * f.i.toNat + 2 * f.z.toNat +
    f.c.toNat)

/-- The flags a pulled byte gives (R56, R416). -/
def statusFlags (v : Byte) : Flags :=
  { n := v.getLsbD 7, v := v.getLsbD 6, d := v.getLsbD 3, i := v.getLsbD 2, z := v.getLsbD 1, c := v.getLsbD 0 }

end Sys2Proof.Machine
end

