-- ==== Sys2Proof/Certificates/Slice0/Obligations.lean ====
section
/-! DEFINITION. The statements for the provers. The words they use (`Completes`, `Reads`, `Writes`, `Modifies`, `Implied`,
`Access`, `Regs`, `State.Inv`, `State.Ready`) are those of Sys2Proof/Safety.lean. -/

open Sys2Proof Sys2Proof.Machine

/-- Words written out from the opcode map and the formats, one of each family, decode to the instructions they stand for
(R151, R154, R105). -/
def Obligations.WrittenWordsDecode : Prop :=
  decode [0xA9, 0x42] = .ok (.ldaImm 0x42, []) ∧ decode [0xBD, 0xF0, 0x12] = .ok (.ldaAbx 0x12F0, []) ∧
  decode [0x91, 0x20] = .ok (.staIzy 0x20, []) ∧ decode [0x48] = .ok (.pha, []) ∧
  decode [0x6D, 0x34, 0x12] = .ok (.adcAbs 0x1234, []) ∧ decode [0x7E, 0xFF, 0x10] = .ok (.rorAbx 0x10FF, []) ∧
  decode [0xEA] = .ok (.nop, []) ∧ decode [0x20, 0x00, 0x10] = .ok (.jsrAbs 0x1000, []) ∧
  decode [0xD0, 0xFB] = .ok (.bne 0xFB, []) ∧ decode [0x00, 0xEA] = .ok (.brk 0xEA, []) ∧
  decode [0xD3, 0x20] = .ok (.dcpIzy 0x20, []) ∧ decode [0x9E, 0xF0, 0x12] = .ok (.shxAby 0x12F0, []) ∧
  decode [0x02] = .ok (.jam02, [])

/-- Decoding the bytes of any instruction gives the instruction back, with every operand at every value, and leaves what
follows (R150, R151, R153, R154). -/
def Obligations.DecodeEncodeIsIdentity : Prop :=
  ∀ (i : Instr) (rest : List Byte), i.wellFormed = true → decode (encode i ++ rest) = .ok (i, rest)

/-- Each list of bytes the decoder accepts is the encoding of what it decodes to, followed by what it leaves (R150, R154). -/
def Obligations.EncodeDecodeIsIdentity : Prop :=
  ∀ (bytes rest : List Byte) (i : Instr), decode bytes = .ok (i, rest) → encode i ++ rest = bytes

/-- No opcode is undefined and none traps: with two bytes after it every opcode byte is an instruction of one to three bytes,
and that many bytes are left (R154, R150). -/
def Obligations.EveryOpcodeDecodes : Prop :=
  ∀ (opcode b1 b2 : Byte), ∃ (i : Instr) (rest : List Byte),
  decode [opcode, b1, b2] = .ok (i, rest) ∧ (encode i).head? = some opcode ∧
  1 ≤ (encode i).length ∧ (encode i).length ≤ 3 ∧ rest.length = 3 - (encode i).length ∧ i.wellFormed = true

/-- A step from a boundary with nothing pending and RESET and RDY high is `exec` of the instruction that the fetched bytes
decode to; all that stands between is `resetHeld`, which the checks of R300 clear. -/
def Obligations.StepRunsTheDecodedInstruction : Prop :=
  ∀ (s : State) (i : Instr) (rest : List Byte), s.Ready → decode s.fetchBytes = .ok (i, rest) →
  step s = exec i { s with resetHeld := false }

/-- An instruction whose bytes stand in memory at PC, with AEC high and memory answering there, is what the next step runs:
fetching is coherent with whatever put the bytes there (R105, R118). -/
def Obligations.InstructionInMemoryRuns : Prop :=
  ∀ (s : State) (i : Instr), s.Ready → s.net.cpu.aec = .high →
  (∀ k : Nat, k < 3 → s.regionAt (s.pc + BitVec.ofNat 16 k) ≠ .external) →
  (∀ k : Nat, k < (encode i).length →
    (encode i)[k]? = some (s.mem.read (s.pc + BitVec.ofNat 16 k).toNat)) →
  step s = exec i { s with resetHeld := false }

/-- `withFetchWord`, the model's own stand-in for a load from outside (log entry 9, DESIGN CHOICE), puts a word where the very next
step runs it, from every state whose memory is in canonical form. -/
def Obligations.FetchWordRuns : Prop :=
  ∀ (s : State) (nbits w : Nat) (i : Instr), s.mem.wf = true → decodeTableWord nbits w = some i →
  step (s.withFetchWord nbits w) = exec i (s.withFetchWord nbits w)

/-- The step of the model, one whole sequence at a time, is one to eight calls of the spec's `step()`, one micro-cycle at a
time: the two descriptions of every sequence agree on every register, transaction and pin (R9, R303, R304). -/
def Obligations.StepIsWholeMicroSteps : Prop :=
  ∀ (s t : State), step s = .next t → ∃ n : Nat, 1 ≤ n ∧ n ≤ 8 ∧ microSteps n s = t

/-- No instruction and no address raises a fault, and no state is refused (R703, R154). -/
def Obligations.NoStateStopsTheMachine : Prop :=
  ∀ (n : Nat) (s : State), s.RunsFor n

/-- Every step keeps the invariant (see `State.Inv`: memory's canonical form, one transaction per counted cycle, sequences of
at most eight cycles that end, no EXECUTE between steps, the halt flags' agreement, no fault record from the future).
That a jammed CPU stands at stage OPCODE is the model's choice (log entry 24, DEDUCED). -/
def Obligations.StepKeepsTheInvariant : Prop :=
  ∀ (s t : State), s.Inv → step s = .next t → t.Inv

/-- Every micro-cycle step keeps the invariant too. That a jammed CPU stands at stage OPCODE is the model's choice (log entry 24,
DEDUCED). -/
def Obligations.MicroStepKeepsTheInvariant : Prop :=
  ∀ (s : State), s.Inv → (microStep s).Inv

/-- The invariant holds at power-on and after reset. The two states' register values, decodeCycle at power-on, empty memory and
control-pin levels are the model's choices (log entries 2, 4 and 5, DESIGN CHOICE). -/
def Obligations.InvariantAtPowerOnAndReset : Prop :=
  State.powerOn.Inv ∧ State.reset.Inv

/-- A step that finds RESET low, from any state: it is idle, halts the CPU, abandons any sequence and clears a jam (R308, R312;
R752 point 1). The same at both levels. -/
def Obligations.ResetHeldStepIsIdle : Prop :=
  ∀ s : State, s.net.cpu.reset = .low → ∃ t, step s = .next t ∧ microStep s = t ∧
  t.isHalted = true ∧ t.resetHeld = true ∧ t.resetPending = true ∧ t.jammed = false ∧ t.micro.stage = .opcode ∧
  t.regs = s.regs ∧ t.pc = s.pc ∧ t.mem = s.mem ∧ t.trace = s.trace ∧ t.cycleCounter = s.cycleCounter ∧
  t.lastOpcodeAddr = s.lastOpcodeAddr ∧ t.faultLog = s.faultLog ∧ t.irqPending = s.irqPending ∧
  t.micro.scratch = s.micro.scratch ∧ t.micro.decodeCycle = s.micro.decodeCycle ∧ t.platform = s.platform ∧
  t.net.cpu.addr = s.net.cpu.addr ∧ (s.net.cpu.aec = .high → t.net.cpu.dataDir = allPins .input ∧ t.net.cpu.rw = .high)

/-- The reset sequence, on the release of RESET (R374, R751): seven reads, SP three lower, I set, PC from the reset vector. -/
def Obligations.ResetSequenceEffects : Prop :=
  ∀ s : State, s.net.cpu.reset = .high → s.net.cpu.rdy = .high → s.resetPending = true → s.micro.stage = .opcode →
  s.jammed = false →
  let b5 := s.reads [] [s.pc, s.pc, stackAddr s.sp, stackAddr (s.sp - 1), stackAddr (s.sp - 2)]
  let b6 := s.reads b5 [0xFFFC]
  let bus := s.reads b6 [0xFFFD]
  ∃ t, step s = .next t ∧
  t.pc = mkWord (s.seen b6 0xFFFD) (s.seen b5 0xFFFC) ∧
  t.regs = { s.regs with sp := s.sp - 3, p := { s.p with i := true } } ∧
  t.trace = (bus.map s.txn).reverse ++ s.trace ∧ t.platform = s.platformAfter bus ∧
  t.jammed = false ∧ t.irqPending = false ∧ t.resetPending = false ∧ t.resetHeld = false ∧ t.micro.stage = .opcode ∧
  t.cycleCounter = s.cycleCounter + 7 ∧ t.lastOpcodeAddr = s.lastOpcodeAddr ∧ t.faultLog = s.faultLog ∧
  t.mem = s.mem ∧ { t.net with cpu := s.net.cpu } = s.net ∧
  (s.net.cpu.aec = .high → t.net.cpu = s.net.cpu.afterRead 0xFFFD (s.seen b6 0xFFFD))

/-- The core as created, its control pins driven high, runs the reset sequence in seven micro-cycles and is then the state
after reset. The register values at power-on, the memory's contents and the platform's state
there, and the control pins' levels, are the model's own (log entries 2, 4, 5 and 13). -/
def Obligations.PowerOnReachesReset : Prop :=
  microSteps 7 ({ State.powerOn with net := { Net.powerOn with cpu :=
    { CpuPins.powerOn with reset := .high, irq := .high, aec := .high, rdy := .high } } }) = State.reset

/-- A pending interrupt at a boundary runs the interrupt sequence in place of the fetch (R373, R707): PC and P are pushed, P
with B as 0, I is set and D kept, PC is loaded from the vector, and lastOpcodeAddr is not written. -/
def Obligations.InterruptEntry : Prop :=
  ∀ s : State, s.mem.wf = true → s.net.cpu.reset = .high → s.net.cpu.rdy = .high → s.resetPending = false →
  s.jammed = false → s.micro.stage = .opcode → s.irqPending = true →
  let b5 := s.reads [] [s.pc, s.pc] ++ [wr (stackAddr s.sp) (hiByte s.pc), wr (stackAddr (s.sp - 1)) (loByte s.pc),
    wr (stackAddr (s.sp - 2)) (statusByte s.p false)]
  let b6 := s.reads b5 [0xFFFE]
  let bus := s.reads b6 [0xFFFF]
  ∃ t, step s = .next t ∧
  t.regs = { s.regs with sp := s.sp - 3, p := { s.p with i := true } } ∧
  t.pc = mkWord (s.seen b6 0xFFFF) (s.seen b5 0xFFFE) ∧ t.platform = s.platformAfter bus ∧
  t.trace = (bus.map s.txn).reverse ++ s.trace ∧ (∀ a, t.mem.read a = s.byteAfter a bus (s.mem.read a)) ∧
  t.cycleCounter = s.cycleCounter + 7 ∧ t.lastOpcodeAddr = s.lastOpcodeAddr ∧ t.irqPending = false ∧
  t.micro.stage = .opcode ∧ t.jammed = false ∧ t.faultLog = s.faultLog ∧
  { t.net with cpu := s.net.cpu } = s.net

/-- A jammed CPU does nothing until RESET is low (R313): every step is idle, whatever IRQ and RDY are, and nothing more is
recorded. -/
def Obligations.JammedStepIsIdle : Prop :=
  ∀ s : State, s.net.cpu.reset = .high → s.jammed = true → s.resetPending = false → ∃ t,
  step s = .next t ∧ microStep s = t ∧ t.jammed = true ∧ t.isHalted = true ∧ t.regs = s.regs ∧ t.pc = s.pc ∧
  t.mem = s.mem ∧ t.trace = s.trace ∧ t.cycleCounter = s.cycleCounter ∧ t.faultLog = s.faultLog ∧
  t.lastOpcodeAddr = s.lastOpcodeAddr ∧ t.irqPending = s.irqPending ∧ t.micro = s.micro ∧ t.platform = s.platform

/-- A micro-cycle step either is idle, and then changes no register, memory byte or counter, or performs exactly one
transaction and counts it; with RDY low that transaction is a write, and with AEC low it is not delivered (R102, R305, R310,
R311, R314). -/
def Obligations.MicroStepIsOneTransactionOrIdle : Prop :=
  ∀ s : State, let t := microStep s
  (t.trace = s.trace ∧ t.cycleCounter = s.cycleCounter ∧ t.mem = s.mem ∧ t.regs = s.regs ∧ t.pc = s.pc ∧
    t.lastOpcodeAddr = s.lastOpcodeAddr ∧ t.faultLog = s.faultLog ∧ t.platform = s.platform) ∨
  ∃ x : Txn, t.trace = x :: s.trace ∧ t.cycleCounter = s.cycleCounter + 1 ∧ x.delivered = !s.aecLow ∧
    t.platform = (if s.aecLow then s.platform
      else Config.platformNext s.platform true x.addr (decide (x.rw = .write)) x.data) ∧
    (s.rdyLow = true → x.rw = .write) ∧
    (x.rw = .read → x.data = s.busRead x.addr ∧ t.mem = s.mem) ∧
    (x.rw = .write → t.mem = s.stored x.addr x.data)

/-- After a micro-cycle with AEC high the CPU's pins hold its transaction, and with AEC low they are released (R260, R262). -/
def Obligations.PinsSettleAfterACycle : Prop :=
  ∀ (s : State) (x : Txn), (microStep s).trace = x :: s.trace →
  (s.net.cpu.aec = .high → (microStep s).net.cpu =
    { s.net.cpu with
      addr := x.addr
      addrDir := allPins .output
      rwDir := .output
      rw := if x.rw = .read then Level.high else Level.low
      data := x.data
      dataDir := if x.rw = .read then allPins .input else allPins .output }) ∧
  (s.net.cpu.aec = .low → (microStep s).net.cpu = 
    { s.net.cpu with addrDir := allPins .hiZ, rwDir := .hiZ, dataDir := allPins .hiZ })

/-- The interrupt poll of an instruction run whole (R320, R321, R322): the level seen with I as it was before the instruction's
last cycle; RTI is polled with the I it restores; BRK leaves nothing pending; under BOUNDARY the new I counts. -/
def Obligations.PollsOfInstructions : Prop :=
  ∀ (s t : State) (i : Instr), exec i s = .next t → i.mnemonic ≠ "JAM" →
  (s.params.irqPollRule = .hardware →
    t.irqPending = (if i.mnemonic = "BRK" then false
      else if i.mnemonic = "RTI" then s.irqLow && !t.p.i else s.irqLow && !s.p.i)) ∧
  (s.params.irqPollRule = .boundary →
    t.irqPending = (if i.mnemonic = "BRK" then false else s.irqLow && !t.p.i))

/-- The polls of a branch, cycle by cycle (R321). Cycle 1, the fetch, polls. Cycle 2 does not, the NMOS quirk, taken or not. Cycle 3
of a branch taken within its page does not, so the latch keeps what the poll of cycle 1 saw; cycle 3 of a branch taken across a
page polls, and cycle 4 does not. -/
def Obligations.TakenBranchCycleDoesNotPoll : Prop :=
  (∀ s : State, s.Ready → s.params.irqPollRule = .hardware → s.busRead s.pc &&& 0x1F = 0x10 →
    (microStep s).irqPending = (s.irqLow && !s.p.i) ∧ (microStep s).micro.stage = .decode ∧
    (microStep s).micro.decodeCycle = 1) ∧
  (∀ s : State, s.net.cpu.reset = .high → s.net.cpu.rdy = .high → s.resetPending = false → s.jammed = false →
    s.params.irqPollRule = .hardware → s.micro.stage = .decode → s.micro.seq = .instr → s.micro.opcode &&& 0x1F = 0x10 →
    let target := s.pc + sext16 s.micro.scratch.offset
    (s.micro.decodeCycle = 1 → (microStep s).irqPending = s.irqPending) ∧
    (s.micro.decodeCycle = 2 → hiByte target = hiByte s.pc → (microStep s).irqPending = s.irqPending ∧
      (microStep s).micro.stage = .opcode ∧ (microStep s).pc = target) ∧
    (s.micro.decodeCycle = 2 → hiByte target ≠ hiByte s.pc → (microStep s).irqPending = (s.irqLow && !s.p.i) ∧
      (microStep s).micro.stage = .decode) ∧
    (s.micro.decodeCycle = 3 → (microStep s).irqPending = s.irqPending ∧ (microStep s).micro.stage = .opcode))

/-- LDA, LDX and LDY in every mode (R401 to R403; R353 to R361). -/
def Obligations.LoadsComplete : Prop :=
  ∀ (s : State) (imm8 zp8 : Byte) (addr16 : Word),
  Reads (.ldaIzx zp8) s (s.viaIzx 0xA1 zp8) Regs.lda ∧
  Reads (.ldaZp zp8) s (s.viaZp 0xA5 zp8) Regs.lda ∧
  ReadsImm (.ldaImm imm8) s 0xA9 imm8 Regs.lda ∧
  Reads (.ldaAbs addr16) s (s.viaAbs 0xAD addr16) Regs.lda ∧
  Reads (.ldaIzy zp8) s (s.viaIzyRead 0xB1 zp8) Regs.lda ∧
  Reads (.ldaZpx zp8) s (s.viaZpIndexed 0xB5 zp8 s.x) Regs.lda ∧
  Reads (.ldaAby addr16) s (s.viaAbsIndexedRead 0xB9 addr16 s.y) Regs.lda ∧
  Reads (.ldaAbx addr16) s (s.viaAbsIndexedRead 0xBD addr16 s.x) Regs.lda ∧
  ReadsImm (.ldxImm imm8) s 0xA2 imm8 Regs.ldx ∧
  Reads (.ldxZp zp8) s (s.viaZp 0xA6 zp8) Regs.ldx ∧
  Reads (.ldxAbs addr16) s (s.viaAbs 0xAE addr16) Regs.ldx ∧
  Reads (.ldxZpy zp8) s (s.viaZpIndexed 0xB6 zp8 s.y) Regs.ldx ∧
  Reads (.ldxAby addr16) s (s.viaAbsIndexedRead 0xBE addr16 s.y) Regs.ldx ∧
  ReadsImm (.ldyImm imm8) s 0xA0 imm8 Regs.ldy ∧
  Reads (.ldyZp zp8) s (s.viaZp 0xA4 zp8) Regs.ldy ∧
  Reads (.ldyAbs addr16) s (s.viaAbs 0xAC addr16) Regs.ldy ∧
  Reads (.ldyZpx zp8) s (s.viaZpIndexed 0xB4 zp8 s.x) Regs.ldy ∧
  Reads (.ldyAbx addr16) s (s.viaAbsIndexedRead 0xBC addr16 s.x) Regs.ldy

/-- STA, STX, STY and SAX in every mode (R404 to R406, R605). -/
def Obligations.StoresComplete : Prop :=
  ∀ (s : State) (zp8 : Byte) (addr16 : Word), s.mem.wf = true →
  Writes (.staIzx zp8) s (s.viaIzx 0x81 zp8) s.a ∧
  Writes (.staZp zp8) s (s.viaZp 0x85 zp8) s.a ∧
  Writes (.staAbs addr16) s (s.viaAbs 0x8D addr16) s.a ∧
  Writes (.staIzy zp8) s (s.viaIzy 0x91 zp8) s.a ∧
  Writes (.staZpx zp8) s (s.viaZpIndexed 0x95 zp8 s.x) s.a ∧
  Writes (.staAby addr16) s (s.viaAbsIndexed 0x99 addr16 s.y) s.a ∧
  Writes (.staAbx addr16) s (s.viaAbsIndexed 0x9D addr16 s.x) s.a ∧
  Writes (.stxZp zp8) s (s.viaZp 0x86 zp8) s.x ∧
  Writes (.stxAbs addr16) s (s.viaAbs 0x8E addr16) s.x ∧
  Writes (.stxZpy zp8) s (s.viaZpIndexed 0x96 zp8 s.y) s.x ∧
  Writes (.styZp zp8) s (s.viaZp 0x84 zp8) s.y ∧
  Writes (.styAbs addr16) s (s.viaAbs 0x8C addr16) s.y ∧
  Writes (.styZpx zp8) s (s.viaZpIndexed 0x94 zp8 s.x) s.y ∧
  Writes (.saxIzx zp8) s (s.viaIzx 0x83 zp8) (s.a &&& s.x) ∧
  Writes (.saxZp zp8) s (s.viaZp 0x87 zp8) (s.a &&& s.x) ∧
  Writes (.saxAbs addr16) s (s.viaAbs 0x8F addr16) (s.a &&& s.x) ∧
  Writes (.saxZpy zp8) s (s.viaZpIndexed 0x97 zp8 s.y) (s.a &&& s.x)

/-- The register transfers (R407 to R412). -/
def Obligations.TransfersComplete : Prop :=
  ∀ s : State,
  Implied .tax s 0xAA (fun r => { r with x := r.a }.nz r.a) ∧
  Implied .tay s 0xA8 (fun r => { r with y := r.a }.nz r.a) ∧
  Implied .txa s 0x8A (fun r => { r with a := r.x }.nz r.x) ∧
  Implied .tya s 0x98 (fun r => { r with a := r.y }.nz r.y) ∧
  Implied .tsx s 0xBA (fun r => { r with x := r.sp }.nz r.sp) ∧
  Implied .txs s 0x9A (fun r => { r with sp := r.x })

/-- PHA, PHP, PLA and PLP (R413 to R416; R364, R365, R106). -/
def Obligations.StackInstructionsComplete : Prop :=
  ∀ s : State, s.mem.wf = true →
  let two (op : Byte) : List Bus := s.reads [rd s.pc op] [s.pc + 1]
  let three (op : Byte) : List Bus := s.reads (two op) [stackAddr s.sp]
  let v (op : Byte) : Byte := s.seen (three op) (stackAddr (s.sp + 1))
  Completes .pha s
    { code := [0x48]
      bus := two 0x48 ++ [wr (stackAddr s.sp) s.a]
      regs := { s.regs with sp := s.sp - 1 }
      pc := s.pc + 1 } ∧
  Completes .php s
    { code := [0x08]
      bus := two 0x08 ++ [wr (stackAddr s.sp) (statusByte s.p true)]
      regs := { s.regs with sp := s.sp - 1 }
      pc := s.pc + 1 } ∧
  Completes .pla s
    { code := [0x68]
      bus := s.reads (three 0x68) [stackAddr (s.sp + 1)]
      regs := { s.regs with sp := s.sp + 1, a := v 0x68 }.nz (v 0x68)
      pc := s.pc + 1 } ∧
  Completes .plp s
    { code := [0x28]
      bus := s.reads (three 0x28) [stackAddr (s.sp + 1)]
      regs := { s.regs with sp := s.sp + 1, p := statusFlags (v 0x28) }
      pc := s.pc + 1 }

/-- ADC, SBC and USBC in every mode, binary and decimal (R456, R457, R615). -/
def Obligations.AddAndSubtractComplete : Prop :=
  ∀ (s : State) (imm8 zp8 : Byte) (addr16 : Word),
  Reads (.adcIzx zp8) s (s.viaIzx 0x61 zp8) Regs.adc ∧
  Reads (.adcZp zp8) s (s.viaZp 0x65 zp8) Regs.adc ∧
  ReadsImm (.adcImm imm8) s 0x69 imm8 Regs.adc ∧
  Reads (.adcAbs addr16) s (s.viaAbs 0x6D addr16) Regs.adc ∧
  Reads (.adcIzy zp8) s (s.viaIzyRead 0x71 zp8) Regs.adc ∧
  Reads (.adcZpx zp8) s (s.viaZpIndexed 0x75 zp8 s.x) Regs.adc ∧
  Reads (.adcAby addr16) s (s.viaAbsIndexedRead 0x79 addr16 s.y) Regs.adc ∧
  Reads (.adcAbx addr16) s (s.viaAbsIndexedRead 0x7D addr16 s.x) Regs.adc ∧
  Reads (.sbcIzx zp8) s (s.viaIzx 0xE1 zp8) Regs.sbc ∧
  Reads (.sbcZp zp8) s (s.viaZp 0xE5 zp8) Regs.sbc ∧
  ReadsImm (.sbcImm imm8) s 0xE9 imm8 Regs.sbc ∧
  Reads (.sbcAbs addr16) s (s.viaAbs 0xED addr16) Regs.sbc ∧
  Reads (.sbcIzy zp8) s (s.viaIzyRead 0xF1 zp8) Regs.sbc ∧
  Reads (.sbcZpx zp8) s (s.viaZpIndexed 0xF5 zp8 s.x) Regs.sbc ∧
  Reads (.sbcAby addr16) s (s.viaAbsIndexedRead 0xF9 addr16 s.y) Regs.sbc ∧
  Reads (.sbcAbx addr16) s (s.viaAbsIndexedRead 0xFD addr16 s.x) Regs.sbc ∧
  ReadsImm (.usbcImm imm8) s 0xEB imm8 Regs.sbc

/-- AND, ORA and EOR in every mode (R458 to R460). -/
def Obligations.LogicCompletes : Prop :=
  ∀ (s : State) (imm8 zp8 : Byte) (addr16 : Word),
  Reads (.andIzx zp8) s (s.viaIzx 0x21 zp8) Regs.and ∧
  Reads (.andZp zp8) s (s.viaZp 0x25 zp8) Regs.and ∧
  ReadsImm (.andImm imm8) s 0x29 imm8 Regs.and ∧
  Reads (.andAbs addr16) s (s.viaAbs 0x2D addr16) Regs.and ∧
  Reads (.andIzy zp8) s (s.viaIzyRead 0x31 zp8) Regs.and ∧
  Reads (.andZpx zp8) s (s.viaZpIndexed 0x35 zp8 s.x) Regs.and ∧
  Reads (.andAby addr16) s (s.viaAbsIndexedRead 0x39 addr16 s.y) Regs.and ∧
  Reads (.andAbx addr16) s (s.viaAbsIndexedRead 0x3D addr16 s.x) Regs.and ∧
  Reads (.oraIzx zp8) s (s.viaIzx 0x01 zp8) Regs.ora ∧
  Reads (.oraZp zp8) s (s.viaZp 0x05 zp8) Regs.ora ∧
  ReadsImm (.oraImm imm8) s 0x09 imm8 Regs.ora ∧
  Reads (.oraAbs addr16) s (s.viaAbs 0x0D addr16) Regs.ora ∧
  Reads (.oraIzy zp8) s (s.viaIzyRead 0x11 zp8) Regs.ora ∧
  Reads (.oraZpx zp8) s (s.viaZpIndexed 0x15 zp8 s.x) Regs.ora ∧
  Reads (.oraAby addr16) s (s.viaAbsIndexedRead 0x19 addr16 s.y) Regs.ora ∧
  Reads (.oraAbx addr16) s (s.viaAbsIndexedRead 0x1D addr16 s.x) Regs.ora ∧
  Reads (.eorIzx zp8) s (s.viaIzx 0x41 zp8) Regs.eor ∧
  Reads (.eorZp zp8) s (s.viaZp 0x45 zp8) Regs.eor ∧
  ReadsImm (.eorImm imm8) s 0x49 imm8 Regs.eor ∧
  Reads (.eorAbs addr16) s (s.viaAbs 0x4D addr16) Regs.eor ∧
  Reads (.eorIzy zp8) s (s.viaIzyRead 0x51 zp8) Regs.eor ∧
  Reads (.eorZpx zp8) s (s.viaZpIndexed 0x55 zp8 s.x) Regs.eor ∧
  Reads (.eorAby addr16) s (s.viaAbsIndexedRead 0x59 addr16 s.y) Regs.eor ∧
  Reads (.eorAbx addr16) s (s.viaAbsIndexedRead 0x5D addr16 s.x) Regs.eor

/-- CMP, CPX, CPY and BIT in every mode (R461 to R464, R455). -/
def Obligations.ComparesAndBitComplete : Prop :=
  ∀ (s : State) (imm8 zp8 : Byte) (addr16 : Word),
  Reads (.cmpIzx zp8) s (s.viaIzx 0xC1 zp8) Regs.cmp ∧
  Reads (.cmpZp zp8) s (s.viaZp 0xC5 zp8) Regs.cmp ∧
  ReadsImm (.cmpImm imm8) s 0xC9 imm8 Regs.cmp ∧
  Reads (.cmpAbs addr16) s (s.viaAbs 0xCD addr16) Regs.cmp ∧
  Reads (.cmpIzy zp8) s (s.viaIzyRead 0xD1 zp8) Regs.cmp ∧
  Reads (.cmpZpx zp8) s (s.viaZpIndexed 0xD5 zp8 s.x) Regs.cmp ∧
  Reads (.cmpAby addr16) s (s.viaAbsIndexedRead 0xD9 addr16 s.y) Regs.cmp ∧
  Reads (.cmpAbx addr16) s (s.viaAbsIndexedRead 0xDD addr16 s.x) Regs.cmp ∧
  ReadsImm (.cpxImm imm8) s 0xE0 imm8 Regs.cpx ∧
  Reads (.cpxZp zp8) s (s.viaZp 0xE4 zp8) Regs.cpx ∧
  Reads (.cpxAbs addr16) s (s.viaAbs 0xEC addr16) Regs.cpx ∧
  ReadsImm (.cpyImm imm8) s 0xC0 imm8 Regs.cpy ∧
  Reads (.cpyZp zp8) s (s.viaZp 0xC4 zp8) Regs.cpy ∧
  Reads (.cpyAbs addr16) s (s.viaAbs 0xCC addr16) Regs.cpy ∧
  Reads (.bitZp zp8) s (s.viaZp 0x24 zp8) Regs.bit ∧
  Reads (.bitAbs addr16) s (s.viaAbs 0x2C addr16) Regs.bit

/-- INC, DEC, INX, INY, DEX and DEY (R465 to R470; R354 for the double write). -/
def Obligations.IncrementsAndDecrementsComplete : Prop :=
  ∀ (s : State) (zp8 : Byte) (addr16 : Word), s.mem.wf = true →
  Modifies (.incZp zp8) s (s.viaZp 0xE6 zp8) Regs.inc ∧
  Modifies (.incAbs addr16) s (s.viaAbs 0xEE addr16) Regs.inc ∧
  Modifies (.incZpx zp8) s (s.viaZpIndexed 0xF6 zp8 s.x) Regs.inc ∧
  Modifies (.incAbx addr16) s (s.viaAbsIndexed 0xFE addr16 s.x) Regs.inc ∧
  Modifies (.decZp zp8) s (s.viaZp 0xC6 zp8) Regs.dec ∧
  Modifies (.decAbs addr16) s (s.viaAbs 0xCE addr16) Regs.dec ∧
  Modifies (.decZpx zp8) s (s.viaZpIndexed 0xD6 zp8 s.x) Regs.dec ∧
  Modifies (.decAbx addr16) s (s.viaAbsIndexed 0xDE addr16 s.x) Regs.dec ∧
  Implied .inx s 0xE8 (fun r => { r with x := r.x + 1 }.nz (r.x + 1)) ∧
  Implied .iny s 0xC8 (fun r => { r with y := r.y + 1 }.nz (r.y + 1)) ∧
  Implied .dex s 0xCA (fun r => { r with x := r.x - 1 }.nz (r.x - 1)) ∧
  Implied .dey s 0x88 (fun r => { r with y := r.y - 1 }.nz (r.y - 1))

/-- ASL, LSR, ROL and ROR in every mode (R471 to R474, R483). -/
def Obligations.ShiftsComplete : Prop :=
  ∀ (s : State) (zp8 : Byte) (addr16 : Word), s.mem.wf = true →
  Implied .aslAcc s 0x0A (Regs.onA Regs.asl) ∧
  Modifies (.aslZp zp8) s (s.viaZp 0x06 zp8) Regs.asl ∧
  Modifies (.aslAbs addr16) s (s.viaAbs 0x0E addr16) Regs.asl ∧
  Modifies (.aslZpx zp8) s (s.viaZpIndexed 0x16 zp8 s.x) Regs.asl ∧
  Modifies (.aslAbx addr16) s (s.viaAbsIndexed 0x1E addr16 s.x) Regs.asl ∧
  Implied .lsrAcc s 0x4A (Regs.onA Regs.lsr) ∧
  Modifies (.lsrZp zp8) s (s.viaZp 0x46 zp8) Regs.lsr ∧
  Modifies (.lsrAbs addr16) s (s.viaAbs 0x4E addr16) Regs.lsr ∧
  Modifies (.lsrZpx zp8) s (s.viaZpIndexed 0x56 zp8 s.x) Regs.lsr ∧
  Modifies (.lsrAbx addr16) s (s.viaAbsIndexed 0x5E addr16 s.x) Regs.lsr ∧
  Implied .rolAcc s 0x2A (Regs.onA Regs.rol) ∧
  Modifies (.rolZp zp8) s (s.viaZp 0x26 zp8) Regs.rol ∧
  Modifies (.rolAbs addr16) s (s.viaAbs 0x2E addr16) Regs.rol ∧
  Modifies (.rolZpx zp8) s (s.viaZpIndexed 0x36 zp8 s.x) Regs.rol ∧
  Modifies (.rolAbx addr16) s (s.viaAbsIndexed 0x3E addr16 s.x) Regs.rol ∧
  Implied .rorAcc s 0x6A (Regs.onA Regs.ror) ∧
  Modifies (.rorZp zp8) s (s.viaZp 0x66 zp8) Regs.ror ∧
  Modifies (.rorAbs addr16) s (s.viaAbs 0x6E addr16) Regs.ror ∧
  Modifies (.rorZpx zp8) s (s.viaZpIndexed 0x76 zp8 s.x) Regs.ror ∧
  Modifies (.rorAbx addr16) s (s.viaAbsIndexed 0x7E addr16 s.x) Regs.ror

/-- The seven flag instructions and the documented NOP (R475 to R482). -/
def Obligations.FlagInstructionsAndNopComplete : Prop :=
  ∀ s : State,
  Implied .clc s 0x18 (fun r => { r with p := { r.p with c := false } }) ∧
  Implied .sec s 0x38 (fun r => { r with p := { r.p with c := true } }) ∧
  Implied .cli s 0x58 (fun r => { r with p := { r.p with i := false } }) ∧
  Implied .sei s 0x78 (fun r => { r with p := { r.p with i := true } }) ∧
  Implied .cld s 0xD8 (fun r => { r with p := { r.p with d := false } }) ∧
  Implied .sed s 0xF8 (fun r => { r with p := { r.p with d := true } }) ∧
  Implied .clv s 0xB8 (fun r => { r with p := { r.p with v := false } }) ∧
  Implied .nop s 0xEA (fun r => r)

/-- JMP abs, JMP (abs), JSR and RTS (R520 to R523; R363, R366, R367, R370). -/
def Obligations.JumpsCallsAndReturnsComplete : Prop :=
  ∀ (s : State) (addr16 : Word), s.mem.wf = true →
  let ptr2 := mkWord (hiByte addr16) (loByte addr16 + 1)
  let j3 := s.fetches (code3 0x6C addr16)
  let j4 := s.reads j3 [addr16]
  let top := stackAddr s.sp
  let last := s.pc + 2
  let c5 := s.reads [rd s.pc 0x20, rd (s.pc + 1) (loByte addr16)] [top] ++
    [wr top (hiByte last), wr (stackAddr (s.sp - 1)) (loByte last)]
  let hi := if last = top ∨ last = stackAddr (s.sp - 1) then s.seen c5 last else hiByte addr16
  let r3 := s.reads [rd s.pc 0x60] [s.pc + 1, top]
  let r4 := s.reads r3 [stackAddr (s.sp + 1)]
  let r5 := s.reads r4 [stackAddr (s.sp + 2)]
  let pulled := mkWord (s.seen r4 (stackAddr (s.sp + 2))) (s.seen r3 (stackAddr (s.sp + 1)))
  Completes (.jmpAbs addr16) s
    { code := code3 0x4C addr16
      bus := s.fetches (code3 0x4C addr16)
      regs := s.regs
      pc := addr16 } ∧
  Completes (.jmpInd addr16) s
    { code := code3 0x6C addr16
      bus := s.reads j4 [ptr2]
      regs := s.regs
      pc := mkWord (s.seen j4 ptr2) (s.seen j3 addr16) } ∧
  Completes (.jsrAbs addr16) s
    { code := code3 0x20 addr16
      bus := c5 ++ [rd last hi]
      regs := { s.regs with sp := s.sp - 2 }
      pc := mkWord hi (loByte addr16) } ∧
  Completes .rts s
    { code := [0x60]
      bus := s.reads r5 [pulled]
      regs := { s.regs with sp := s.sp + 2 }
      pc := pulled + 1 }

/-- BRK and RTI (R525, R369; R524, R368), and what their polls leave in the latch, under either rule of `IRQ_POLL_RULE`. -/
def Obligations.BreakAndInterruptReturnComplete : Prop :=
  ∀ (s : State) (signature : Byte), s.mem.wf = true →
  let next := s.pc + 1
  let ret := s.pc + 2
  let b5 := [rd s.pc 0x00, rd next signature, wr (stackAddr s.sp) (hiByte ret), wr (stackAddr (s.sp - 1)) (loByte ret),
    wr (stackAddr (s.sp - 2)) (statusByte s.p true)]
  let b6 := s.reads b5 [0xFFFE]
  let r3 := s.reads [rd s.pc 0x40] [next, stackAddr s.sp]
  let r4 := s.reads r3 [stackAddr (s.sp + 1)]
  let r5 := s.reads r4 [stackAddr (s.sp + 2)]
  let v := s.seen r3 (stackAddr (s.sp + 1))
  let lo := s.seen r4 (stackAddr (s.sp + 2))
  let hi := s.seen r5 (stackAddr (s.sp + 3))
  Completes (.brk signature) s
    { code := [0x00, signature]
      bus := s.reads b6 [0xFFFF]
      regs := { s.regs with sp := s.sp - 3, p := { s.p with i := true } }
      pc := mkWord (s.seen b6 0xFFFF) (s.seen b5 0xFFFE) } ∧
  Completes .rti s
    { code := [0x40]
      bus := s.reads r5 [stackAddr (s.sp + 3)]
      regs := { s.regs with sp := s.sp + 3, p := statusFlags v }
      pc := mkWord hi lo } ∧
  (∃ t, exec (.brk signature) s = .next t ∧ t.irqPending = false) ∧
  (∃ t, exec .rti s = .next t ∧ t.irqPending = (s.irqLow && !(statusFlags v).i))

/-- The eight conditional branches, taken and not, within a page and across (R526 to R534, R362). -/
def Obligations.BranchesComplete : Prop :=
  ∀ (s : State) (rel8 : Byte),
  let next := s.pc + 2
  let target := next + sext16 rel8
  let wrong := mkWord (hiByte next) (loByte target)
  let go (op : Byte) (taken : Bool) : Effect :=
    { code := [op, rel8]
      bus := s.reads (s.fetches [op, rel8])
        (if taken then (if hiByte target = hiByte next then [next] else [next, wrong]) else [])
      regs := s.regs
      pc := if taken then target else next }
  Completes (.bpl rel8) s (go 0x10 !s.p.n) ∧ Completes (.bmi rel8) s (go 0x30 s.p.n) ∧
  Completes (.bvc rel8) s (go 0x50 !s.p.v) ∧ Completes (.bvs rel8) s (go 0x70 s.p.v) ∧
  Completes (.bcc rel8) s (go 0x90 !s.p.c) ∧ Completes (.bcs rel8) s (go 0xB0 s.p.c) ∧
  Completes (.bne rel8) s (go 0xD0 !s.p.z) ∧ Completes (.beq rel8) s (go 0xF0 s.p.z)

/-- SLO, RLA, SRE, RRA, DCP and ISC in every mode (R601 to R604, R607, R608). -/
def Obligations.CombinedModifiesComplete : Prop :=
  ∀ (s : State) (zp8 : Byte) (addr16 : Word), s.mem.wf = true →
  Modifies (.sloIzx zp8) s (s.viaIzx 0x03 zp8) Regs.slo ∧
  Modifies (.sloZp zp8) s (s.viaZp 0x07 zp8) Regs.slo ∧
  Modifies (.sloAbs addr16) s (s.viaAbs 0x0F addr16) Regs.slo ∧
  Modifies (.sloIzy zp8) s (s.viaIzy 0x13 zp8) Regs.slo ∧
  Modifies (.sloZpx zp8) s (s.viaZpIndexed 0x17 zp8 s.x) Regs.slo ∧
  Modifies (.sloAby addr16) s (s.viaAbsIndexed 0x1B addr16 s.y) Regs.slo ∧
  Modifies (.sloAbx addr16) s (s.viaAbsIndexed 0x1F addr16 s.x) Regs.slo ∧
  Modifies (.rlaIzx zp8) s (s.viaIzx 0x23 zp8) Regs.rla ∧
  Modifies (.rlaZp zp8) s (s.viaZp 0x27 zp8) Regs.rla ∧
  Modifies (.rlaAbs addr16) s (s.viaAbs 0x2F addr16) Regs.rla ∧
  Modifies (.rlaIzy zp8) s (s.viaIzy 0x33 zp8) Regs.rla ∧
  Modifies (.rlaZpx zp8) s (s.viaZpIndexed 0x37 zp8 s.x) Regs.rla ∧
  Modifies (.rlaAby addr16) s (s.viaAbsIndexed 0x3B addr16 s.y) Regs.rla ∧
  Modifies (.rlaAbx addr16) s (s.viaAbsIndexed 0x3F addr16 s.x) Regs.rla ∧
  Modifies (.sreIzx zp8) s (s.viaIzx 0x43 zp8) Regs.sre ∧
  Modifies (.sreZp zp8) s (s.viaZp 0x47 zp8) Regs.sre ∧
  Modifies (.sreAbs addr16) s (s.viaAbs 0x4F addr16) Regs.sre ∧
  Modifies (.sreIzy zp8) s (s.viaIzy 0x53 zp8) Regs.sre ∧
  Modifies (.sreZpx zp8) s (s.viaZpIndexed 0x57 zp8 s.x) Regs.sre ∧
  Modifies (.sreAby addr16) s (s.viaAbsIndexed 0x5B addr16 s.y) Regs.sre ∧
  Modifies (.sreAbx addr16) s (s.viaAbsIndexed 0x5F addr16 s.x) Regs.sre ∧
  Modifies (.rraIzx zp8) s (s.viaIzx 0x63 zp8) Regs.rra ∧
  Modifies (.rraZp zp8) s (s.viaZp 0x67 zp8) Regs.rra ∧
  Modifies (.rraAbs addr16) s (s.viaAbs 0x6F addr16) Regs.rra ∧
  Modifies (.rraIzy zp8) s (s.viaIzy 0x73 zp8) Regs.rra ∧
  Modifies (.rraZpx zp8) s (s.viaZpIndexed 0x77 zp8 s.x) Regs.rra ∧
  Modifies (.rraAby addr16) s (s.viaAbsIndexed 0x7B addr16 s.y) Regs.rra ∧
  Modifies (.rraAbx addr16) s (s.viaAbsIndexed 0x7F addr16 s.x) Regs.rra ∧
  Modifies (.dcpIzx zp8) s (s.viaIzx 0xC3 zp8) Regs.dcp ∧
  Modifies (.dcpZp zp8) s (s.viaZp 0xC7 zp8) Regs.dcp ∧
  Modifies (.dcpAbs addr16) s (s.viaAbs 0xCF addr16) Regs.dcp ∧
  Modifies (.dcpIzy zp8) s (s.viaIzy 0xD3 zp8) Regs.dcp ∧
  Modifies (.dcpZpx zp8) s (s.viaZpIndexed 0xD7 zp8 s.x) Regs.dcp ∧
  Modifies (.dcpAby addr16) s (s.viaAbsIndexed 0xDB addr16 s.y) Regs.dcp ∧
  Modifies (.dcpAbx addr16) s (s.viaAbsIndexed 0xDF addr16 s.x) Regs.dcp ∧
  Modifies (.iscIzx zp8) s (s.viaIzx 0xE3 zp8) Regs.isc ∧
  Modifies (.iscZp zp8) s (s.viaZp 0xE7 zp8) Regs.isc ∧
  Modifies (.iscAbs addr16) s (s.viaAbs 0xEF addr16) Regs.isc ∧
  Modifies (.iscIzy zp8) s (s.viaIzy 0xF3 zp8) Regs.isc ∧
  Modifies (.iscZpx zp8) s (s.viaZpIndexed 0xF7 zp8 s.x) Regs.isc ∧
  Modifies (.iscAby addr16) s (s.viaAbsIndexed 0xFB addr16 s.y) Regs.isc ∧
  Modifies (.iscAbx addr16) s (s.viaAbsIndexed 0xFF addr16 s.x) Regs.isc

/-- LAX, LAS and the undocumented NOPs, with the full bus activity of their modes (R606, R621, R622). -/
def Obligations.LaxLasAndReadingNopsComplete : Prop :=
  ∀ (s : State) (imm8 zp8 : Byte) (addr16 : Word),
  Reads (.laxIzx zp8) s (s.viaIzx 0xA3 zp8) Regs.lax ∧
  Reads (.laxZp zp8) s (s.viaZp 0xA7 zp8) Regs.lax ∧
  Reads (.laxAbs addr16) s (s.viaAbs 0xAF addr16) Regs.lax ∧
  Reads (.laxIzy zp8) s (s.viaIzyRead 0xB3 zp8) Regs.lax ∧
  Reads (.laxZpy zp8) s (s.viaZpIndexed 0xB7 zp8 s.y) Regs.lax ∧
  Reads (.laxAby addr16) s (s.viaAbsIndexedRead 0xBF addr16 s.y) Regs.lax ∧
  Reads (.lasAby addr16) s (s.viaAbsIndexedRead 0xBB addr16 s.y) Regs.las ∧
  Reads (.nopZp04 zp8) s (s.viaZp 0x04 zp8) Regs.nop ∧
  Reads (.nopAbs addr16) s (s.viaAbs 0x0C addr16) Regs.nop ∧
  Reads (.nopZpx14 zp8) s (s.viaZpIndexed 0x14 zp8 s.x) Regs.nop ∧
  Reads (.nopAbx1C addr16) s (s.viaAbsIndexedRead 0x1C addr16 s.x) Regs.nop ∧
  Reads (.nopZpx34 zp8) s (s.viaZpIndexed 0x34 zp8 s.x) Regs.nop ∧
  Reads (.nopAbx3C addr16) s (s.viaAbsIndexedRead 0x3C addr16 s.x) Regs.nop ∧
  Reads (.nopZp44 zp8) s (s.viaZp 0x44 zp8) Regs.nop ∧
  Reads (.nopZpx54 zp8) s (s.viaZpIndexed 0x54 zp8 s.x) Regs.nop ∧
  Reads (.nopAbx5C addr16) s (s.viaAbsIndexedRead 0x5C addr16 s.x) Regs.nop ∧
  Reads (.nopZp64 zp8) s (s.viaZp 0x64 zp8) Regs.nop ∧
  Reads (.nopZpx74 zp8) s (s.viaZpIndexed 0x74 zp8 s.x) Regs.nop ∧
  Reads (.nopAbx7C addr16) s (s.viaAbsIndexedRead 0x7C addr16 s.x) Regs.nop ∧
  ReadsImm (.nopImm80 imm8) s 0x80 imm8 Regs.nop ∧
  ReadsImm (.nopImm82 imm8) s 0x82 imm8 Regs.nop ∧
  ReadsImm (.nopImm89 imm8) s 0x89 imm8 Regs.nop ∧
  ReadsImm (.nopImmC2 imm8) s 0xC2 imm8 Regs.nop ∧
  Reads (.nopZpxD4 zp8) s (s.viaZpIndexed 0xD4 zp8 s.x) Regs.nop ∧
  Reads (.nopAbxDC addr16) s (s.viaAbsIndexedRead 0xDC addr16 s.x) Regs.nop ∧
  ReadsImm (.nopImmE2 imm8) s 0xE2 imm8 Regs.nop ∧
  Reads (.nopZpxF4 zp8) s (s.viaZpIndexed 0xF4 zp8 s.x) Regs.nop ∧
  Reads (.nopAbxFC addr16) s (s.viaAbsIndexedRead 0xFC addr16 s.x) Regs.nop ∧
  Implied .nop1A s 0x1A (fun r => r) ∧
  Implied .nop3A s 0x3A (fun r => r) ∧
  Implied .nop5A s 0x5A (fun r => r) ∧
  Implied .nop7A s 0x7A (fun r => r) ∧
  Implied .nopDA s 0xDA (fun r => r) ∧
  Implied .nopFA s 0xFA (fun r => r)

/-- ANC, ALR, ARR, ANE, LXA and SBX (R609 to R614). The constants of ANE and LXA are open: the statement holds whatever they
are. -/
def Obligations.UndocumentedImmediatesComplete : Prop :=
  ∀ (s : State) (imm8 : Byte),
  ReadsImm (.ancImm0B imm8) s 0x0B imm8 Regs.anc ∧
  ReadsImm (.ancImm2B imm8) s 0x2B imm8 Regs.anc ∧
  ReadsImm (.alrImm imm8) s 0x4B imm8 Regs.alr ∧
  ReadsImm (.arrImm imm8) s 0x6B imm8 Regs.arr ∧
  ReadsImm (.aneImm imm8) s 0x8B imm8 Regs.ane ∧
  ReadsImm (.lxaImm imm8) s 0xAB imm8 Regs.lxa ∧
  ReadsImm (.sbxImm imm8) s 0xCB imm8 Regs.sbx

/-- SHA, SHX, SHY and TAS with RDY and AEC high (R616 to R620, R372). -/
def Obligations.HighByteStoresComplete : Prop :=
  ∀ (s : State) (zp8 : Byte) (addr16 : Word), s.mem.wf = true → s.net.cpu.rdy = .high → s.net.cpu.aec = .high →
  let go (m : Access) (base : Word) (index reg : Byte) (regs : Regs) : Effect :=
    let v := reg &&& (hiByte base + 1)
    let hi := if (loByte base).toNat + index.toNat > 0xFF then v else hiByte (base + zext16 index)
    { code := m.code, bus := m.head ++ [wr (mkWord hi (loByte base + index)) v], regs := regs, pc := s.pcAfter m.code }
  Completes (.shaIzy zp8) s (go (s.viaIzy 0x93 zp8) (s.izyBase 0x93 zp8) s.y (s.a &&& s.x) s.regs) ∧
  Completes (.shaAby addr16) s (go (s.viaAbsIndexed 0x9F addr16 s.y) addr16 s.y (s.a &&& s.x) s.regs) ∧
  Completes (.shxAby addr16) s (go (s.viaAbsIndexed 0x9E addr16 s.y) addr16 s.y s.x s.regs) ∧
  Completes (.shyAbx addr16) s (go (s.viaAbsIndexed 0x9C addr16 s.x) addr16 s.x s.y s.regs) ∧
  Completes (.tasAby addr16) s (go (s.viaAbsIndexed 0x9B addr16 s.y) addr16 s.y (s.a &&& s.x) { s.regs with sp := s.a &&& s.x })

/-- SHA, SHX, SHY and TAS when RDY or AEC is low during the instruction: the byte written and the high byte of its address
are open (R616; U14), one draw each; everything else is as always. -/
def Obligations.HighByteStoresOpenUnderRdyOrAec : Prop :=
  ∀ (s : State) (zp8 : Byte) (addr16 : Word), s.mem.wf = true → s.net.cpu.rdy = .low ∨ s.net.cpu.aec = .low →
  let go (m : Access) (base : Word) (index : Byte) (regs : Regs) : Effect :=
    let k := s.cycleCounter + m.head.length
    { code := m.code
      bus := m.head ++ [wr (mkWord (Config.highStoreHigh k) (loByte base + index)) (Config.highStoreValue k)]
      regs := regs
      pc := s.pcAfter m.code }
  Completes (.shaIzy zp8) s (go (s.viaIzy 0x93 zp8) (s.izyBase 0x93 zp8) s.y s.regs) ∧
  Completes (.shaAby addr16) s (go (s.viaAbsIndexed 0x9F addr16 s.y) addr16 s.y s.regs) ∧
  Completes (.shxAby addr16) s (go (s.viaAbsIndexed 0x9E addr16 s.y) addr16 s.y s.regs) ∧
  Completes (.shyAbx addr16) s (go (s.viaAbsIndexed 0x9C addr16 s.x) addr16 s.x s.regs) ∧
  Completes (.tasAby addr16) s (go (s.viaAbsIndexed 0x9B addr16 s.y) addr16 s.y { s.regs with sp := s.a &&& s.x })

/-- Each of the twelve JAM opcodes (R623, R371): its fetch is performed and counted, the CPU is jammed, one record with the
opcode, its address and the counter after the fetch joins the log, and PC is past the opcode. That the
stage is then OPCODE (DEDUCED), and that under BOUNDARY too the fetch leaves the interrupt latch (DESIGN CHOICE; R321 says so of
HARDWARE), are the model's choices (log entry 24). -/
def Obligations.JamLocksTheCpu : Prop :=
  ∀ s : State,
  let locks (i : Instr) (op : Byte) : Prop := encode i = [op] ∧ ∃ t, exec i s = .next t ∧ t.jammed = true ∧
    t.isHalted = true ∧ t.faultLog = s.faultLog ++ [{ kind := .jam op s.pc, cycle := s.cycleCounter + 1 }] ∧
    t.pc = s.pc + 1 ∧ t.lastOpcodeAddr = s.pc ∧ t.regs = s.regs ∧ t.mem = s.mem ∧
    t.trace = s.txn (rd s.pc op) :: s.trace ∧ t.cycleCounter = s.cycleCounter + 1 ∧ t.micro.stage = .opcode ∧
    t.irqPending = s.irqPending ∧ t.platform = s.platformAfter [rd s.pc op] ∧ s.SameOutside t
  locks .jam02 0x02 ∧
  locks .jam12 0x12 ∧
  locks .jam22 0x22 ∧
  locks .jam32 0x32 ∧
  locks .jam42 0x42 ∧
  locks .jam52 0x52 ∧
  locks .jam62 0x62 ∧
  locks .jam72 0x72 ∧
  locks .jam92 0x92 ∧
  locks .jamB2 0xB2 ∧
  locks .jamD2 0xD2 ∧
  locks .jamF2 0xF2

/-- The table of R58, flag by flag: an instruction not in a flag's list of writers leaves it. -/
def Obligations.OnlyItsWritersChangeAFlag : Prop :=
  ∀ (i : Instr) (s t : State), exec i s = .next t →
  (i.mnemonic ∉ ["ADC", "SBC", "CMP", "CPX", "CPY", "ASL", "LSR", "ROL", "ROR", "CLC", "SEC", "PLP", "RTI", "SLO", "RLA", "SRE", "RRA", "DCP", "ISC", "ANC", "ALR", "ARR", "SBX", "USBC"] →
    t.p.c = s.p.c) ∧
  (i.mnemonic ∉ ["LDA", "LDX", "LDY", "TAX", "TAY", "TXA", "TYA", "TSX", "PLA", "AND", "ORA", "EOR", "ADC", "SBC", "CMP", "CPX", "CPY", "BIT", "INC", "DEC", "INX", "INY", "DEX", "DEY", "ASL", "LSR", "ROL", "ROR", "PLP", "RTI", "SLO", "RLA", "SRE", "RRA", "LAX", "DCP", "ISC", "ANC", "ALR", "ARR", "ANE", "LXA", "SBX", "USBC", "LAS"] → t.p.z = s.p.z ∧ t.p.n = s.p.n) ∧
  (i.mnemonic ∉ ["CLI", "SEI", "PLP", "RTI", "BRK"] → t.p.i = s.p.i) ∧
  (i.mnemonic ∉ ["CLD", "SED", "PLP", "RTI"] → t.p.d = s.p.d) ∧
  (i.mnemonic ∉ ["ADC", "SBC", "BIT", "CLV", "PLP", "RTI", "RRA", "ISC", "ARR", "USBC"] → t.p.v = s.p.v)

/-- The writers of A, X, Y and SP (R50 to R53): an instruction not in a register's list leaves it. -/
def Obligations.OnlyItsWritersChangeARegister : Prop :=
  ∀ (i : Instr) (s t : State), exec i s = .next t →
  (i.mnemonic ∉ ["LDA", "PLA", "TXA", "TYA", "ADC", "SBC", "AND", "ORA", "EOR", "ASL", "LSR", "ROL", "ROR", "LAX", "LXA", "ANE", "ANC", "ALR", "ARR", "SLO", "RLA", "SRE", "RRA", "ISC", "USBC", "LAS"] →
    t.a = s.a) ∧
  (i.mnemonic ∉ ["LDX", "TAX", "TSX", "INX", "DEX", "LAX", "LXA", "SBX", "LAS"] → t.x = s.x) ∧
  (i.mnemonic ∉ ["LDY", "TAY", "INY", "DEY"] → t.y = s.y) ∧
  (i.mnemonic ∉ ["TXS", "TAS", "LAS", "JSR", "RTS", "RTI", "BRK", "PHA", "PHP", "PLA", "PLP"] → t.sp = s.sp)

/-- Memory changes only by the write transactions of an instruction, and only the storing instructions have any (R102, R103):
every byte that no write of the instruction addresses reads as before. -/
def Obligations.OnlyStoringInstructionsChangeMemory : Prop :=
  ∀ (i : Instr) (s t : State), s.mem.wf = true → exec i s = .next t →
  (i.mnemonic ∉ ["STA", "STX", "STY", "SAX", "SHA", "SHX", "SHY", "TAS", "PHA", "PHP", "JSR", "BRK", "ASL", "LSR", "ROL", "ROR", "INC", "DEC", "SLO", "RLA", "SRE", "RRA", "DCP", "ISC"] →
    t.mem = s.mem) ∧
  ∃ new : List Txn, t.trace = new ++ s.trace ∧
    (∀ a : Nat, (∀ x ∈ new, x.rw = .write → x.addr.toNat ≠ a) → t.mem.read a = s.mem.read a)

/-- No instruction but JAM jams the CPU or adds to the fault log (R156, R703). -/
def Obligations.OnlyJamJams : Prop :=
  ∀ (i : Instr) (s t : State), exec i s = .next t → i.mnemonic ≠ "JAM" →
  t.jammed = s.jammed ∧ t.faultLog = s.faultLog ∧ t.micro.stage = .opcode

/-- The binary adder (R451): result and carry are those of the exact sum, and V, from the sign-bit rule, is signed overflow. -/
def Obligations.BinaryAdderIsExact : Prop :=
  ∀ (a b : Byte) (c : Bool),
  (addBin a b c).r.toNat + 256 * (addBin a b c).c.toNat = a.toNat + b.toNat + c.toNat ∧
  ((addBin a b c).v = true ↔ a.toInt + b.toInt + c.toNat < -128 ∨ 127 < a.toInt + b.toInt + c.toNat) ∧
  ((addBin a b c).n = true ↔ (addBin a b c).r.toInt < 0) ∧ ((addBin a b c).z = true ↔ (addBin a b c).r = 0)

/-- The laws of R484, (a) to (e). -/
def Obligations.AdderLaws : Prop :=
  (∀ (a b : Byte) (c : Bool), subBin a b c = addBin a (~~~b) c) ∧
  (∀ (a b : Byte) (c : Bool), addBin a b c = addBin b a c) ∧
  (∀ a m : Byte, (subBin (addBin a m false).r m true).r = a) ∧
  (∀ (v : Byte) (c : Bool), ror (rol v c).1 (rol v c).2 = (v, c)) ∧
  (∀ (f : Flags) (r b : Byte), (f.compare r b).c = (subBin r b true).c ∧ (f.compare r b).z = (subBin r b true).z ∧
    (f.compare r b).v = f.v)

/-- The decimal adders (R452, R454, R485). On every byte, the digits of the sum and its flags by digit arithmetic, Z from the
binary sum, and the digits of the difference; the flags of a decimal subtraction are those of the exact binary difference. On valid BCD operands both are
decimal arithmetic modulo 100, and C is the decimal carry or no-borrow. -/
def Obligations.DecimalAdderFlagsAndDigits : Prop :=
  (∀ (ah al bh bl : Fin 16) (c : Bool),
    let a := BitVec.ofNat 8 (16 * ah.val + al.val)
    let b := BitVec.ofNat 8 (16 * bh.val + bl.val)
    let low := al.val + bl.val + c.toNat
    let half := decide (10 ≤ low)
    let hi := ah.val + bh.val + half.toNat
    let digit := if half then (low + 6) % 16 else low
    (addDec a b c).r = BitVec.ofNat 8 (16 * (if 10 ≤ hi then hi + 6 else hi) + digit) ∧
    ((addDec a b c).c = true ↔ 10 ≤ hi) ∧
    ((addDec a b c).n = true ↔ 8 ≤ hi % 16) ∧
    ((addDec a b c).v = true ↔ (8 ≤ ah.val ↔ 8 ≤ bh.val) ∧ ¬ (8 ≤ ah.val ↔ 8 ≤ hi % 16)) ∧
    ((addDec a b c).z = true ↔ a + b + BitVec.ofNat 8 c.toNat = 0)) ∧
  (∀ (ah al bh bl : Fin 16) (c : Bool),
    let a := BitVec.ofNat 8 (16 * ah.val + al.val)
    let b := BitVec.ofNat 8 (16 * bh.val + bl.val)
    let half := decide (al.val + c.toNat < bl.val + 1)
    let digit := if half then (al.val + c.toNat + 25 - bl.val) % 16 else al.val + c.toNat - (bl.val + 1)
    let hi := ah.val + 32 - bh.val - half.toNat
    (subDec a b c).r = BitVec.ofNat 8 (16 * (if hi < 32 then hi - 6 else hi) + digit)) ∧
  (∀ (a b : Byte) (c : Bool),
    ((subDec a b c).c = true ↔ b.toNat + 1 ≤ a.toNat + c.toNat) ∧
    ((subDec a b c).n = true ↔ (a - b - BitVec.ofNat 8 (1 - c.toNat)).toInt < 0) ∧
    ((subDec a b c).v = true ↔ a.toInt - b.toInt - (1 - c.toNat) < -128 ∨ 127 < a.toInt - b.toInt - (1 - c.toNat)) ∧
    ((subDec a b c).z = true ↔ a - b = BitVec.ofNat 8 (1 - c.toNat))) ∧
  (∀ (ah al bh bl : Fin 10) (c : Bool),
    let a := BitVec.ofNat 8 (16 * ah.val + al.val)
    let b := BitVec.ofNat 8 (16 * bh.val + bl.val)
    let x := 10 * ah.val + al.val
    let y := 10 * bh.val + bl.val
    let sum := x + y + c.toNat
    let diff := x + 100 + c.toNat - 1 - y
    (addDec a b c).r = BitVec.ofNat 8 (16 * (sum % 100 / 10) + sum % 10) ∧ ((addDec a b c).c = true ↔ 100 ≤ sum) ∧
    (subDec a b c).r = BitVec.ofNat 8 (16 * (diff % 100 / 10) + diff % 10) ∧
    ((subDec a b c).c = true ↔ y + 1 ≤ x + c.toNat))

/-- A subroutine call followed at once by a return goes on after the call, with the stack pointer where it was (R522, R523). -/
def Obligations.CallThenReturnResumes : Prop :=
  ∀ (s t u : State) (addr16 : Word), s.mem.wf = true → s.net.cpu.aec = .high →
  (∀ b : Byte, s.regionAt (stackAddr b) = .ram) → exec (.jsrAbs addr16) s = .next t → exec .rts t = .next u →
  u.pc = s.pc + 3 ∧ u.regs = s.regs

/-- An interrupt followed at once by RTI resumes the instruction it pre-empted, with P, and so the interrupt mask, as it was
(R707, R708). -/
def Obligations.InterruptThenReturnResumes : Prop :=
  ∀ s t u : State, s.mem.wf = true → s.net.cpu.aec = .high →
  (∀ b : Byte, s.regionAt (stackAddr b) = .ram) →
  s.net.cpu.reset = .high → s.net.cpu.rdy = .high → s.resetPending = false → s.jammed = false →
  s.micro.stage = .opcode → s.irqPending = true → step s = .next t → exec .rti t = .next u →
  u.pc = s.pc ∧ u.regs = s.regs

/-- The level setter's own contract (R202): a fault on an INPUT pin with no state changed but the log, a no-op on a HI_Z pin
and for the level held, and a change that reaches nobody on a pin with no wire. -/
def Obligations.LevelSetterContract : Prop :=
  ∀ (order : Nat → Nat) (who : Owner) (p : PinId) (v : Level) (s : State), s.net.ownerOf p = some who →
  s.net.unsettled = false →
  (s.net.directionOf p = some .input →
    let r : FaultRec := { kind := .invalidDirectionPin p, cycle := s.cycleCounter }
    (setLevel order who p v).run s = .error (.fault (.invalidDirection r)) { s with faultLog := s.faultLog ++ [r] }) ∧
  (s.net.directionOf p = some .hiZ → (setLevel order who p v).run s = .ok false s) ∧
  (s.net.directionOf p = some .output → s.net.levelOf p = v → (setLevel order who p v).run s = .ok false s) ∧
  (s.net.directionOf p = some .output → s.net.levelOf p ≠ v → s.net.links = [] → 1 ≤ s.params.maxDepth →
    (setLevel order who p v).run s = .ok true (s.mapNet (fun n => n.putLevel p v)))

/-- Propagation on a net with no sinks (R210): whatever the order of the visits (R213), every INPUT pin of the net takes the new
level, and every OUTPUT and HI_Z pin, and every pin outside the net, keeps its own. -/
def Obligations.PropagationSettlesANet : Prop :=
  ∀ (order : Nat → Nat) (who : Owner) (p : PinId) (v : Level) (s : State), s.net.ownerOf p = some who →
  s.net.directionOf p = some .output → s.net.levelOf p ≠ v → 1 ≤ s.params.maxDepth →
  s.net.unsettled = false → (∀ q ∈ netOf s.net.links p, s.net.sinkOf q = none) →
  ∃ t, (setLevel order who p v).run s = .ok true t ∧ t.net.levelOf p = v ∧ t.net.links = s.net.links ∧
    t.net.notes = s.net.notes ∧ t.faultLog = s.faultLog ∧
    (∀ q ∈ netOf s.net.links p, q ≠ p →
      t.net.levelOf q = if s.net.directionOf q = some .input then v else s.net.levelOf q) ∧
    (∀ q, q ∉ netOf s.net.links p → t.net.levelOf q = s.net.levelOf q) ∧
    (∀ q, t.net.directionOf q = s.net.directionOf q)

/-- The bus round trip: writing a bus wired pin by pin to an equally wide input bus makes that bus read the value written,
modulo 2^w, with pin 0 as bit 0 (R222, R223, R225, R227). -/
def Obligations.BusRoundTrip : Prop :=
  ∀ (order : Nat → Nat) (who : Owner) (b c : BusId) (ps qs : List PinId) (value : Nat) (s : State),
  s.net.busPins b = some ps → s.net.busPins c = some qs → ps ≠ [] → ps.length = qs.length → (ps ++ qs).Nodup →
  1 ≤ s.params.maxDepth → s.net.unsettled = false → s.net.busSink b = none →
  (∀ p ∈ ps, s.net.ownerOf p = some who ∧ s.net.directionOf p = some .output) →
  (∀ q ∈ qs, s.net.directionOf q = some .input ∧ s.net.sinkOf q = none) →
  (∀ (i : Nat) (p q : PinId), ps[i]? = some p → qs[i]? = some q →
    netOf s.net.links p = [p, q] ∧ s.net.levelOf q = s.net.levelOf p) →
  ∃ changed t, (busWrite order who b value).run s = .ok changed t ∧
    (busValue c).run t = .ok (value % 2 ^ ps.length) t ∧ (busValue b).run t = .ok (value % 2 ^ ps.length) t

/-- A bus write checks before it changes a pin (R223, R702): direction agreement first, then INPUT; a HI_Z bus is a no-op. -/
def Obligations.BusWriteChecksFirst : Prop :=
  ∀ (order : Nat → Nat) (who : Owner) (b : BusId) (ps : List PinId) (value : Nat) (s : State),
  s.net.busPins b = some ps → (∀ p ∈ ps, s.net.ownerOf p = some who) → s.net.unsettled = false →
  (s.net.sharedDirection ps = none →
    let r : FaultRec := { kind := .busDirectionMismatch b, cycle := s.cycleCounter }
    (busWrite order who b value).run s = .error (.fault (.busDirectionMismatch r)) { s with faultLog := s.faultLog ++ [r] }) ∧
  (s.net.sharedDirection ps = some .input →
    let r : FaultRec := { kind := .invalidDirectionBus b, cycle := s.cycleCounter }
    (busWrite order who b value).run s = .error (.fault (.invalidDirection r)) { s with faultLog := s.faultLog ++ [r] }) ∧
  (s.net.sharedDirection ps = some .hiZ → (busWrite order who b value).run s = .ok false s)

/-- Linking two pins joins their nets and changes no level; disconnecting a pin removes exactly its links and leaves it with no
net (R211, R212). -/
def Obligations.ConnectAndDisconnect : Prop :=
  ∀ (p q : PinId) (s : State), s.net.directionOf p ≠ none → s.net.directionOf q ≠ none →
  (∃ t, (connect p q).run s = .ok () t ∧ q ∈ netOf t.net.links p ∧ (∀ x, t.net.levelOf x = s.net.levelOf x) ∧
    (∀ l ∈ s.net.links, l ∈ t.net.links) ∧ (connect p q).run t = .ok () t) ∧
  (connect p p).run s = .ok () s ∧
  ∃ u, (disconnect p).run s = .ok () u ∧ netOf u.net.links p = [p] ∧ (∀ x, u.net.levelOf x = s.net.levelOf x) ∧
    ∀ l, l ∈ u.net.links ↔ l ∈ s.net.links ∧ l.p ≠ p ∧ l.q ≠ p

/-- Connectors (R231, R232, R702): gender is checked before busy; connecting is symmetric and makes the peers; disconnecting
removes exactly the links of the connection. -/
def Obligations.ConnectorsBindAndUnbind : Prop :=
  ∀ (c d : Nat) (cc dd : Connector) (s : State), s.net.connectors[c]? = some cc → s.net.connectors[d]? = some dd →
  (cc.gender = dd.gender →
    let r : FaultRec := { kind := .genderMismatch c d, cycle := s.cycleCounter }
    (connectorConnect c d).run s = .error (.fault (.genderMismatch r)) { s with faultLog := s.faultLog ++ [r] }) ∧
  (cc.gender ≠ dd.gender → (cc.peer ≠ none ∨ dd.peer ≠ none) →
    let r : FaultRec := { kind := .connectorBusy c d, cycle := s.cycleCounter }
    (connectorConnect c d).run s = .error (.fault (.connectorBusy r)) { s with faultLog := s.faultLog ++ [r] }) ∧
  (cc.gender ≠ dd.gender → cc.peer = none → dd.peer = none →
    ∃ t u, (connectorConnect c d).run s = .ok () t ∧ (connectorConnect d c).run s = .ok () t ∧
      (connectorDisconnect c).run t = .ok () u ∧
      t.net.connectors[c]? = some { cc with peer := some d } ∧ t.net.connectors[d]? = some { dd with peer := some c } ∧
      (∀ (i : Nat) (p q : PinId), cc.pins[i]? = some p → dd.pins[i]? = some q →
        ∃ l ∈ t.net.links, l.joins p q = true ∧ l.origin = bindOrigin c cc d) ∧
      (∀ l, l ∈ u.net.links ↔ l ∈ s.net.links ∧ l.origin ≠ bindOrigin c cc d) ∧
      u.net.connectors = s.net.connectors)

/-- The pin level and the transaction level are one machine (R9, R260, R261, R326): with the platform's memory wired to the
CPU's data pins, nothing else wired to the CPU, and memory behind every address, a step carried out pin by pin leaves exactly the
state of `step()` but for the levels and directions of the memory's own pins, whatever the order of visits, and the wiring as it was. That memory is eight
pins driven once the address has settled is the model's choice (log entry 12). -/
def Obligations.PinLevelStepIsTheMicroStep : Prop :=
  ∀ (order : Nat → Nat) (s : State), s.OnlyMemoryWired → (∀ addr : Word, s.regionAt addr ≠ .external) →
  1 ≤ s.params.maxDepth →
  ∃ t, (pinStep order).run s = .ok () t ∧ t.OnlyMemoryWired ∧
    t = { microStep s with net := { (microStep s).net with pins := t.net.pins } } ∧
    t.net.pins.length = s.net.pins.length ∧
    (∀ k : Nat, .ext k ∉ s.net.memoryPins → t.net.pins[k]? = s.net.pins[k]?) ∧
    ∀ k : Nat, (t.net.pins[k]?).map (fun (q : Pin) => (q.name, q.owner, q.sink)) = (s.net.pins[k]?).map (fun (q : Pin) => (q.name, q.owner, q.sink))

/-- A memory image load before execution or while halted (R113): byte i at base + i modulo 2^16, no cycle, no transaction; while
the CPU runs it is refused, and so after every step that does not leave it halted. How the state shows that no step has begun
execution, a reset pending and no cycle counted, is DEDUCED (log entry 19); that a load into ROM stores is the model's choice (log
entry 10, DESIGN CHOICE). -/
def Obligations.ImageLoadStoresItsBytes : Prop :=
  ∀ (base : Word) (bytes : List Byte) (s : State),
  (s.isHalted = false → s.resetPending = false ∨ s.cycleCounter ≠ 0 →
    (load base bytes).run s = .error (.refusal .loadWhileRunning) s) ∧
  (s.Inv → (microStep s).isHalted = false →
    (load base bytes).run (microStep s) = .error (.refusal .loadWhileRunning) (microStep s)) ∧
  (∀ t, s.Inv → step s = .next t → t.isHalted = false →
    (load base bytes).run t = .error (.refusal .loadWhileRunning) t) ∧
  (s.isHalted = true ∨ s.resetPending = true ∧ s.cycleCounter = 0 → s.mem.wf = true → bytes.length ≤ 65536 →
    (∀ addr : Word, s.regionAt addr ≠ .external) →
    ∃ t, (load base bytes).run s = .ok () t ∧ t = { s with mem := t.mem } ∧ t.mem.wf = true ∧
      (∀ (i : Nat) (v : Byte), bytes[i]? = some v → t.mem.read (base + BitVec.ofNat 16 i).toNat = v) ∧
      (∀ a : Nat, (∀ i : Nat, i < bytes.length → (base + BitVec.ofNat 16 i).toNat ≠ a) → t.mem.read a = s.mem.read a))

/-- Notifications (R206, R207, R223). A change of an OUTPUT pin calls, once each, the sinks of exactly the INPUT pins of its net that
take the new level, and the same level again calls none; a sink that sets a pin of its own propagates before the call returns;
a bus write calls the bus's aggregate sink once with the value written, and only if a pin changed. -/
def Obligations.SinksAreCalledOnce : Prop :=
  (∀ (order : Nat → Nat) (who : Owner) (p : PinId) (v : Level) (s : State), s.net.ownerOf p = some who →
    s.net.directionOf p = some .output → s.net.levelOf p ≠ v → 1 ≤ s.params.maxDepth → s.net.unsettled = false →
    (∀ q ∈ netOf s.net.links p, ∀ k, s.net.sinkOf q = some k → k = .done) →
    ∃ (t : State) (calls : List Note), (setLevel order who p v).run s = .ok true t ∧
      t.net.notes = calls ++ s.net.notes ∧ calls.Nodup ∧
      (∀ x, x ∈ calls ↔ ∃ q ∈ netOf s.net.links p, q ≠ p ∧ s.net.directionOf q = some .input ∧ s.net.levelOf q ≠ v ∧
        s.net.sinkOf q = some .done ∧ x = .pin q v) ∧
      (setLevel order who p v).run t = .ok false t) ∧
  (∀ (order : Nat → Nat) (who : Owner) (p q r u : PinId) (v : Level) (s : State), s.net.ownerOf p = some who →
    s.net.directionOf p = some .output → s.net.levelOf p ≠ v → 2 ≤ s.params.maxDepth → s.net.unsettled = false →
    netOf s.net.links p = [p, q] → s.net.directionOf q = some .input → s.net.levelOf q ≠ v →
    s.net.sinkOf q = some (.setLevel r (.note 0) .done) → s.net.ownerOf r = s.net.ownerOf q →
    netOf s.net.links r = [r, u] → s.net.directionOf r = some .output → s.net.levelOf r ≠ v →
    s.net.directionOf u = some .input → s.net.sinkOf u = none → [p, q, r, u].Nodup →
    ∃ t, (setLevel order who p v).run s = .ok true t ∧ t.net.notes = .pin q v :: s.net.notes ∧
      ∀ x, t.net.levelOf x = if x ∈ [p, q, r, u] then v else s.net.levelOf x) ∧
  (∀ (order : Nat → Nat) (who : Owner) (b : BusId) (ps : List PinId) (value : Nat) (k : BusSink) (s : State),
    s.net.busPins b = some ps → ps ≠ [] → ps.Nodup → 1 ≤ s.params.maxDepth → s.net.unsettled = false →
    (∀ p ∈ ps, s.net.ownerOf p = some who ∧ s.net.directionOf p = some .output ∧
      ∀ q ∈ netOf s.net.links p, s.net.sinkOf q = none) →
    s.net.busSink b = some k → k.sink = .done →
    let changed := decide (value % 2 ^ ps.length ≠ s.net.valueOf ps)
    ∃ t, (busWrite order who b value).run s = .ok changed t ∧ t.net.valueOf ps = value % 2 ^ ps.length ∧
      t.net.notes = (if changed then [.bus b (value % 2 ^ ps.length)] else []) ++ s.net.notes)

/-- The overflow of nested propagation (R214, R775): a pin whose own net's sink sets it back oscillates, and whatever the bound is
the call stops with one `PropagationOverflow` record; what it may have changed are levels of pins reachable from the source; the
network is never again treated as settled, so later calls that would propagate are refused (U3; log entry 20). -/
def Obligations.OscillationOverflows : Prop :=
  ∀ (order : Nat → Nat) (who : Owner) (p q : PinId) (v : Level) (s : State), s.net.unsettled = false →
  s.net.ownerOf p = some who → s.net.ownerOf q = some who → s.net.directionOf p = some .output →
  s.net.directionOf q = some .input → s.net.levelOf p ≠ v → s.net.levelOf q ≠ v → netOf s.net.links p = [p, q] →
  s.net.sinkOf q = some (.setLevel p (.not (.note 0)) .done) →
  let r : FaultRec := { kind := .propagationOverflow p (s.params.maxDepth + 1), cycle := s.cycleCounter }
  ∃ t, (setLevel order who p v).run s = .error (.fault (.propagationOverflow r)) t ∧
    t = { s with faultLog := s.faultLog ++ [r], net := t.net } ∧ t.net.unsettled = true ∧
    (∀ x, x ∉ s.net.reachable (30 + s.net.pins.length) [p] → t.net.levelOf x = s.net.levelOf x) ∧
    (∀ x, t.net.directionOf x = s.net.directionOf x) ∧ t.net.links = s.net.links ∧
    (pinStep order).run t = .error (.refusal .unsettled) t ∧
    ∀ w x l, t.net.ownerOf x = some w → (setLevel order w x l).run t = .error (.refusal .unsettled) t

/-- Adding and removing the pins of a connector (R233, R234): on a connected connector a new pin is bound to the peer's pin at its
index, if there is one, and after a removal exactly the pairs at the new indices are bound; no level changes, and without a peer
no link changes. That a link names the MALE side's pin first and that removal takes the first of equal pins are the model's
choices (log entry 23, DESIGN CHOICE). -/
def Obligations.ConnectorPinsStayBound : Prop :=
  ∀ (c d : Nat) (cc dd : Connector) (p : PinId) (s : State), s.net.connectors[c]? = some cc →
  s.net.connectors[d]? = some dd → c ≠ d → s.net.directionOf p ≠ none →
  cc.peer = none ∨ cc.peer = some d →
  let origin := bindOrigin c cc d
  let ends (a b : PinId) : Link :=
    if cc.gender = .male then { p := a, q := b, origin := origin } else { p := b, q := a, origin := origin }
  (∃ t, (connectorAddPin c p).run s = .ok () t ∧ t.net.connectors[c]? = some { cc with pins := cc.pins ++ [p] } ∧
    (∀ e, e ≠ c → t.net.connectors[e]? = s.net.connectors[e]?) ∧ (∀ x, t.net.levelOf x = s.net.levelOf x) ∧
    (cc.peer = none → t.net.links = s.net.links) ∧
    (cc.peer = some d → ∀ l, l ∈ t.net.links ↔
      l ∈ s.net.links ∨ ∃ q, dd.pins[cc.pins.length]? = some q ∧ l = ends p q)) ∧
  (p ∉ cc.pins → (connectorRemovePin c p).run s = .ok () s) ∧
  (p ∈ cc.pins → ∃ t, (connectorRemovePin c p).run s = .ok () t ∧
    t.net.connectors[c]? = some { cc with pins := cc.pins.erase p } ∧
    (∀ e, e ≠ c → t.net.connectors[e]? = s.net.connectors[e]?) ∧ (∀ x, t.net.levelOf x = s.net.levelOf x) ∧
    (cc.peer = none → t.net.links = s.net.links) ∧
    (cc.peer = some d → ∀ l, l ∈ t.net.links ↔ (l ∈ s.net.links ∧ l.origin ≠ origin) ∨
      ∃ (i : Nat) (a b : PinId), (cc.pins.erase p)[i]? = some a ∧ dd.pins[i]? = some b ∧ l = ends a b))
end

