-- ==== Sys2Proof/Laws/Memory.lean ====
section
/-! SUPPORT. The laws of memory: a write keeps the canonical form; a read after a write to the same address gives the byte
written; a write leaves every other address alone. -/

namespace Sys2Proof.Machine

@[simp] theorem Memory.wf_nil : Memory.wf [] = true := rfl

/-- What the canonical form says of a list with a first cell. -/
theorem Memory.wf_cons (cell : Host.Cell) (rest : Memory) :
    Memory.wf (cell :: rest) = true ↔
      cell.1 < 0x10000 ∧ cell.2 ≠ Memory.blank ∧ (∀ later ∈ rest, cell.1 < later.1) ∧ Memory.wf rest = true := by
  simp only [Memory.wf, Bool.and_eq_true, decide_eq_true_eq, List.all_eq_true, and_assoc]

/-- An address below every cell of a list reads as blank. -/
theorem Memory.read_below (m : Memory) (addr : Nat) (h : ∀ cell ∈ m, addr < cell.1) :
    Memory.read m addr = Memory.blank := by
  induction m with
  | nil => rfl
  | cons cell rest ih =>
    have hc := h cell (by simp)
    rw [Memory.read, if_neg (by omega)]
    exact ih fun x hx => h x (by simp [hx])

/-- Every cell of a written memory is the one written or a cell that was there. -/
theorem Memory.mem_write (m : Memory) (addr : Nat) (v : Byte) (x : Host.Cell) (hx : x ∈ Memory.write m addr v) :
    x = (addr, v) ∨ x ∈ m := by
  induction m with
  | nil => unfold Memory.write at hx; split at hx <;> simp_all
  | cons cell rest ih =>
    unfold Memory.write at hx
    split at hx
    · split at hx <;> simp_all
    · split at hx
      · split at hx
        · exact .inr (List.mem_cons_of_mem _ hx)
        · rcases List.mem_cons.mp hx with h | h
          · exact .inl h
          · exact .inr (List.mem_cons_of_mem _ h)
      · rcases List.mem_cons.mp hx with h | h
        · simp [h]
        · rcases ih h with h | h <;> simp [h]

/-- A write below 2^16 keeps the canonical form. -/
theorem Memory.wf_write (m : Memory) (addr : Nat) (v : Byte) (ha : addr < 0x10000) (h : Memory.wf m = true) :
    Memory.wf (Memory.write m addr v) = true := by
  induction m with
  | nil => unfold Memory.write; split <;> simp_all [Memory.wf]
  | cons cell rest ih =>
    obtain ⟨h1, h2, h3, h4⟩ := (Memory.wf_cons _ _).mp h
    unfold Memory.write
    split
    · split
      · exact h
      · refine (Memory.wf_cons _ _).mpr ⟨ha, ‹_›, ?_, h⟩
        intro x hx
        rcases List.mem_cons.mp hx with rfl | hx
        · assumption
        · have := h3 x hx; simp only; omega
    · split
      · split
        · exact h4
        · exact (Memory.wf_cons _ _).mpr ⟨ha, ‹_›, fun x hx => ‹addr = cell.1› ▸ h3 x hx, h4⟩
      · refine (Memory.wf_cons _ _).mpr ⟨h1, h2, ?_, ih h4⟩
        intro x hx
        rcases Memory.mem_write rest addr v x hx with rfl | hx
        · simp only; omega
        · exact h3 x hx

/-- A write at a word address keeps the canonical form. -/
theorem Memory.wf_write_word (m : Memory) (addr : Word) (v : Byte) (h : Memory.wf m = true) :
    Memory.wf (Memory.write m addr.toNat v) = true :=
  Memory.wf_write m addr.toNat v addr.isLt h

/-- A byte read after a write, at any address. -/
theorem Memory.read_write (m : Memory) (addr a : Nat) (v : Byte) (h : Memory.wf m = true) :
    Memory.read (Memory.write m addr v) a = if addr = a then v else Memory.read m a := by
  induction m with
  | nil =>
    unfold Memory.write
    split <;> by_cases ha : addr = a <;> simp_all [Memory.read]
  | cons cell rest ih =>
    obtain ⟨_, _, h3, h4⟩ := (Memory.wf_cons _ _).mp h
    unfold Memory.write
    split
    · rename_i hlt
      by_cases ha : addr = a
      · subst ha
        have hb : Memory.read (cell :: rest) addr = Memory.blank := by
          refine Memory.read_below _ _ fun x hx => ?_
          rcases List.mem_cons.mp hx with rfl | hx
          · exact hlt
          · have := h3 x hx; omega
        split <;> simp_all [Memory.read]
      · split <;> simp_all [Memory.read]
    · split
      · rename_i heq
        by_cases ha : addr = a
        · subst ha
          have hb : Memory.read rest addr = Memory.blank :=
            Memory.read_below _ _ fun x hx => heq ▸ h3 x hx
          split <;> simp_all [Memory.read]
        · split <;> simp_all [Memory.read]
      · have := ih h4
        by_cases ha : addr = a <;> by_cases hc : cell.1 = a <;> simp_all [Memory.read]

/-- What a bus write leaves in memory keeps the canonical form. -/
theorem State.wf_stored (s : State) (addr : Word) (v : Byte) (h : s.mem.wf = true) : (s.stored addr v).wf = true := by
  unfold State.stored
  split
  · exact h
  · split
    · exact Memory.wf_write_word _ _ _ h
    · exact h

/-- A byte after a bus write: the byte written where the write was kept, the old byte everywhere else. -/
theorem State.read_stored (s : State) (addr : Word) (v : Byte) (a : Nat) (h : s.mem.wf = true) :
    (s.stored addr v).read a =
      if addr.toNat = a ∧ s.aecLow = false ∧ s.regionAt addr = .ram then v else s.mem.read a := by
  unfold State.stored
  split
  · simp_all
  · cases hr : s.regionAt addr <;> simp_all [Memory.read_write]

/-- The memory of the state after reset is in canonical form. -/
theorem State.reset_mem_wf : State.reset.mem.wf = true := rfl

end Sys2Proof.Machine
end

