-- ==== Sys2Proof/Laws/State.lean ====
section
/-! SUPPORT. One lemma per field per update: what each operation on the state leaves in each field, and that the levels of
the control pins, the memory map and what the bus answers are kept by all that do not write. With these, no proof unfolds
a record update. -/

namespace Sys2Proof.Machine

@[simp] theorem CpuPins.released_reset (p : CpuPins) : (p.released).reset = p.reset := rfl
@[simp] theorem CpuPins.released_irq (p : CpuPins) : (p.released).irq = p.irq := rfl
@[simp] theorem CpuPins.released_phi0 (p : CpuPins) : (p.released).phi0 = p.phi0 := rfl
@[simp] theorem CpuPins.released_aec (p : CpuPins) : (p.released).aec = p.aec := rfl
@[simp] theorem CpuPins.released_rdy (p : CpuPins) : (p.released).rdy = p.rdy := rfl

@[simp] theorem CpuPins.afterRead_reset (p : CpuPins) (addr : Word) (v : Byte) : (p.afterRead addr v).reset = p.reset := by
  unfold CpuPins.afterRead; split <;> rfl
@[simp] theorem CpuPins.afterRead_irq (p : CpuPins) (addr : Word) (v : Byte) : (p.afterRead addr v).irq = p.irq := by
  unfold CpuPins.afterRead; split <;> rfl
@[simp] theorem CpuPins.afterRead_phi0 (p : CpuPins) (addr : Word) (v : Byte) : (p.afterRead addr v).phi0 = p.phi0 := by
  unfold CpuPins.afterRead; split <;> rfl
@[simp] theorem CpuPins.afterRead_aec (p : CpuPins) (addr : Word) (v : Byte) : (p.afterRead addr v).aec = p.aec := by
  unfold CpuPins.afterRead; split <;> rfl
@[simp] theorem CpuPins.afterRead_rdy (p : CpuPins) (addr : Word) (v : Byte) : (p.afterRead addr v).rdy = p.rdy := by
  unfold CpuPins.afterRead; split <;> rfl

@[simp] theorem CpuPins.afterWrite_reset (p : CpuPins) (addr : Word) (v : Byte) : (p.afterWrite addr v).reset = p.reset := by
  unfold CpuPins.afterWrite; split <;> rfl
@[simp] theorem CpuPins.afterWrite_irq (p : CpuPins) (addr : Word) (v : Byte) : (p.afterWrite addr v).irq = p.irq := by
  unfold CpuPins.afterWrite; split <;> rfl
@[simp] theorem CpuPins.afterWrite_phi0 (p : CpuPins) (addr : Word) (v : Byte) : (p.afterWrite addr v).phi0 = p.phi0 := by
  unfold CpuPins.afterWrite; split <;> rfl
@[simp] theorem CpuPins.afterWrite_aec (p : CpuPins) (addr : Word) (v : Byte) : (p.afterWrite addr v).aec = p.aec := by
  unfold CpuPins.afterWrite; split <;> rfl
@[simp] theorem CpuPins.afterWrite_rdy (p : CpuPins) (addr : Word) (v : Byte) : (p.afterWrite addr v).rdy = p.rdy := by
  unfold CpuPins.afterWrite; split <;> rfl

@[simp] theorem CpuPins.afterIdle_reset (p : CpuPins) : (p.afterIdle).reset = p.reset := by
  unfold CpuPins.afterIdle; split <;> rfl
@[simp] theorem CpuPins.afterIdle_irq (p : CpuPins) : (p.afterIdle).irq = p.irq := by
  unfold CpuPins.afterIdle; split <;> rfl
@[simp] theorem CpuPins.afterIdle_phi0 (p : CpuPins) : (p.afterIdle).phi0 = p.phi0 := by
  unfold CpuPins.afterIdle; split <;> rfl
@[simp] theorem CpuPins.afterIdle_aec (p : CpuPins) : (p.afterIdle).aec = p.aec := by
  unfold CpuPins.afterIdle; split <;> rfl
@[simp] theorem CpuPins.afterIdle_rdy (p : CpuPins) : (p.afterIdle).rdy = p.rdy := by
  unfold CpuPins.afterIdle; split <;> rfl

/-! ### Bundled operations in terms of the single ones -/

@[simp] theorem State.readCycle_eq (s : State) (addr : Word) :
    s.readCycle addr = s.readCycleAs addr (s.busRead addr) := rfl

@[simp] theorem State.fetchCycle_eq (s : State) (b : Byte) : s.fetchCycle b = (s.readCycleAs s.pc b).incPc := rfl

@[simp] theorem State.dummyPc_eq (s : State) : s.dummyPc = s.readCycleAs s.pc (s.busRead s.pc) := rfl

@[simp] theorem State.pushCycle_eq (s : State) (v : Byte) :
    s.pushCycle v = (s.writeCycle (stackAddr s.sp) v).decSp := rfl

@[simp] theorem State.opcodeCycle_eq (s : State) (opcode : Byte) :
    s.opcodeCycle opcode = (s.readCycleAs s.pc opcode).latchOpcode opcode := rfl

@[simp] theorem State.fetch2_eq (s : State) (opcode b : Byte) :
    s.fetch2 opcode b = (s.opcodeCycle opcode).fetchCycle b := rfl

@[simp] theorem State.fetch3_eq (s : State) (opcode : Byte) (addr : Word) :
    s.fetch3 opcode addr = (s.fetch2 opcode (loByte addr)).fetchCycle (hiByte addr) := rfl

/-! ### readCycleAs -/

@[simp] theorem State.readCycleAs_a (s : State) (addr : Word) (v : Byte) :
    (s.readCycleAs addr v).a = s.a := rfl
@[simp] theorem State.readCycleAs_x (s : State) (addr : Word) (v : Byte) :
    (s.readCycleAs addr v).x = s.x := rfl
@[simp] theorem State.readCycleAs_y (s : State) (addr : Word) (v : Byte) :
    (s.readCycleAs addr v).y = s.y := rfl
@[simp] theorem State.readCycleAs_sp (s : State) (addr : Word) (v : Byte) :
    (s.readCycleAs addr v).sp = s.sp := rfl
@[simp] theorem State.readCycleAs_pc (s : State) (addr : Word) (v : Byte) :
    (s.readCycleAs addr v).pc = s.pc := rfl
@[simp] theorem State.readCycleAs_p (s : State) (addr : Word) (v : Byte) :
    (s.readCycleAs addr v).p = s.p := rfl
@[simp] theorem State.readCycleAs_resetHeld (s : State) (addr : Word) (v : Byte) :
    (s.readCycleAs addr v).resetHeld = s.resetHeld := rfl
@[simp] theorem State.readCycleAs_resetPending (s : State) (addr : Word) (v : Byte) :
    (s.readCycleAs addr v).resetPending = s.resetPending := rfl
@[simp] theorem State.readCycleAs_jammed (s : State) (addr : Word) (v : Byte) :
    (s.readCycleAs addr v).jammed = s.jammed := rfl
@[simp] theorem State.readCycleAs_irqPending (s : State) (addr : Word) (v : Byte) :
    (s.readCycleAs addr v).irqPending = s.irqPending := rfl
@[simp] theorem State.readCycleAs_cycleCounter (s : State) (addr : Word) (v : Byte) :
    (s.readCycleAs addr v).cycleCounter = s.cycleCounter + 1 := rfl
@[simp] theorem State.readCycleAs_lastOpcodeAddr (s : State) (addr : Word) (v : Byte) :
    (s.readCycleAs addr v).lastOpcodeAddr = s.lastOpcodeAddr := rfl
@[simp] theorem State.readCycleAs_faultLog (s : State) (addr : Word) (v : Byte) :
    (s.readCycleAs addr v).faultLog = s.faultLog := rfl
@[simp] theorem State.readCycleAs_net (s : State) (addr : Word) (v : Byte) :
    (s.readCycleAs addr v).net = { s.net with cpu := s.net.cpu.afterRead addr v } := rfl
@[simp] theorem State.readCycleAs_mem (s : State) (addr : Word) (v : Byte) :
    (s.readCycleAs addr v).mem = s.mem := rfl
@[simp] theorem State.readCycleAs_platform (s : State) (addr : Word) (v : Byte) :
    (s.readCycleAs addr v).platform = s.observe addr .read v := rfl
@[simp] theorem State.readCycleAs_map (s : State) (addr : Word) (v : Byte) :
    (s.readCycleAs addr v).map = s.map := rfl
@[simp] theorem State.readCycleAs_trace (s : State) (addr : Word) (v : Byte) :
    (s.readCycleAs addr v).trace = { addr := addr, rw := .read, data := v, delivered := !s.aecLow } :: s.trace := rfl
@[simp] theorem State.readCycleAs_params (s : State) (addr : Word) (v : Byte) :
    (s.readCycleAs addr v).params = s.params := rfl
@[simp] theorem State.readCycleAs_stage (s : State) (addr : Word) (v : Byte) :
    (s.readCycleAs addr v).micro.stage = s.micro.stage := rfl
@[simp] theorem State.readCycleAs_seq (s : State) (addr : Word) (v : Byte) :
    (s.readCycleAs addr v).micro.seq = s.micro.seq := rfl
@[simp] theorem State.readCycleAs_decodeCycle (s : State) (addr : Word) (v : Byte) :
    (s.readCycleAs addr v).micro.decodeCycle = s.micro.decodeCycle + 1 := rfl
@[simp] theorem State.readCycleAs_opcode (s : State) (addr : Word) (v : Byte) :
    (s.readCycleAs addr v).micro.opcode = s.micro.opcode := rfl
@[simp] theorem State.readCycleAs_scratch (s : State) (addr : Word) (v : Byte) :
    (s.readCycleAs addr v).micro.scratch = s.micro.scratch := rfl
@[simp] theorem State.readCycleAs_disturbed (s : State) (addr : Word) (v : Byte) :
    (s.readCycleAs addr v).micro.disturbed = (s.micro.disturbed || s.aecLow || s.rdyLow) := rfl
@[simp] theorem State.readCycleAs_aecLow (s : State) (addr : Word) (v : Byte) :
    (s.readCycleAs addr v).aecLow = s.aecLow := by
  simp [State.aecLow]
@[simp] theorem State.readCycleAs_rdyLow (s : State) (addr : Word) (v : Byte) :
    (s.readCycleAs addr v).rdyLow = s.rdyLow := by
  simp [State.rdyLow]
@[simp] theorem State.readCycleAs_irqLow (s : State) (addr : Word) (v : Byte) :
    (s.readCycleAs addr v).irqLow = s.irqLow := by
  simp [State.irqLow]
@[simp] theorem State.readCycleAs_resetLow (s : State) (addr : Word) (v : Byte) :
    (s.readCycleAs addr v).resetLow = s.resetLow := by
  simp [State.resetLow]
@[simp] theorem State.readCycleAs_regionAt (s : State) (addr : Word) (v : Byte) (w : Word) :
    (s.readCycleAs addr v).regionAt w = s.regionAt w := rfl

/-! ### writeCycle -/

@[simp] theorem State.writeCycle_a (s : State) (addr : Word) (v : Byte) :
    (s.writeCycle addr v).a = s.a := rfl
@[simp] theorem State.writeCycle_x (s : State) (addr : Word) (v : Byte) :
    (s.writeCycle addr v).x = s.x := rfl
@[simp] theorem State.writeCycle_y (s : State) (addr : Word) (v : Byte) :
    (s.writeCycle addr v).y = s.y := rfl
@[simp] theorem State.writeCycle_sp (s : State) (addr : Word) (v : Byte) :
    (s.writeCycle addr v).sp = s.sp := rfl
@[simp] theorem State.writeCycle_pc (s : State) (addr : Word) (v : Byte) :
    (s.writeCycle addr v).pc = s.pc := rfl
@[simp] theorem State.writeCycle_p (s : State) (addr : Word) (v : Byte) :
    (s.writeCycle addr v).p = s.p := rfl
@[simp] theorem State.writeCycle_resetHeld (s : State) (addr : Word) (v : Byte) :
    (s.writeCycle addr v).resetHeld = s.resetHeld := rfl
@[simp] theorem State.writeCycle_resetPending (s : State) (addr : Word) (v : Byte) :
    (s.writeCycle addr v).resetPending = s.resetPending := rfl
@[simp] theorem State.writeCycle_jammed (s : State) (addr : Word) (v : Byte) :
    (s.writeCycle addr v).jammed = s.jammed := rfl
@[simp] theorem State.writeCycle_irqPending (s : State) (addr : Word) (v : Byte) :
    (s.writeCycle addr v).irqPending = s.irqPending := rfl
@[simp] theorem State.writeCycle_cycleCounter (s : State) (addr : Word) (v : Byte) :
    (s.writeCycle addr v).cycleCounter = s.cycleCounter + 1 := rfl
@[simp] theorem State.writeCycle_lastOpcodeAddr (s : State) (addr : Word) (v : Byte) :
    (s.writeCycle addr v).lastOpcodeAddr = s.lastOpcodeAddr := rfl
@[simp] theorem State.writeCycle_faultLog (s : State) (addr : Word) (v : Byte) :
    (s.writeCycle addr v).faultLog = s.faultLog := rfl
@[simp] theorem State.writeCycle_net (s : State) (addr : Word) (v : Byte) :
    (s.writeCycle addr v).net = { s.net with cpu := s.net.cpu.afterWrite addr v } := rfl
@[simp] theorem State.writeCycle_mem (s : State) (addr : Word) (v : Byte) :
    (s.writeCycle addr v).mem = s.stored addr v := rfl
@[simp] theorem State.writeCycle_platform (s : State) (addr : Word) (v : Byte) :
    (s.writeCycle addr v).platform = s.observe addr .write v := rfl
@[simp] theorem State.writeCycle_map (s : State) (addr : Word) (v : Byte) :
    (s.writeCycle addr v).map = s.map := rfl
@[simp] theorem State.writeCycle_trace (s : State) (addr : Word) (v : Byte) :
    (s.writeCycle addr v).trace = { addr := addr, rw := .write, data := v, delivered := !s.aecLow } :: s.trace := rfl
@[simp] theorem State.writeCycle_params (s : State) (addr : Word) (v : Byte) :
    (s.writeCycle addr v).params = s.params := rfl
@[simp] theorem State.writeCycle_stage (s : State) (addr : Word) (v : Byte) :
    (s.writeCycle addr v).micro.stage = s.micro.stage := rfl
@[simp] theorem State.writeCycle_seq (s : State) (addr : Word) (v : Byte) :
    (s.writeCycle addr v).micro.seq = s.micro.seq := rfl
@[simp] theorem State.writeCycle_decodeCycle (s : State) (addr : Word) (v : Byte) :
    (s.writeCycle addr v).micro.decodeCycle = s.micro.decodeCycle + 1 := rfl
@[simp] theorem State.writeCycle_opcode (s : State) (addr : Word) (v : Byte) :
    (s.writeCycle addr v).micro.opcode = s.micro.opcode := rfl
@[simp] theorem State.writeCycle_scratch (s : State) (addr : Word) (v : Byte) :
    (s.writeCycle addr v).micro.scratch = s.micro.scratch := rfl
@[simp] theorem State.writeCycle_disturbed (s : State) (addr : Word) (v : Byte) :
    (s.writeCycle addr v).micro.disturbed = (s.micro.disturbed || s.aecLow || s.rdyLow) := rfl
@[simp] theorem State.writeCycle_aecLow (s : State) (addr : Word) (v : Byte) :
    (s.writeCycle addr v).aecLow = s.aecLow := by
  simp [State.aecLow]
@[simp] theorem State.writeCycle_rdyLow (s : State) (addr : Word) (v : Byte) :
    (s.writeCycle addr v).rdyLow = s.rdyLow := by
  simp [State.rdyLow]
@[simp] theorem State.writeCycle_irqLow (s : State) (addr : Word) (v : Byte) :
    (s.writeCycle addr v).irqLow = s.irqLow := by
  simp [State.irqLow]
@[simp] theorem State.writeCycle_resetLow (s : State) (addr : Word) (v : Byte) :
    (s.writeCycle addr v).resetLow = s.resetLow := by
  simp [State.resetLow]
@[simp] theorem State.writeCycle_regionAt (s : State) (addr : Word) (v : Byte) (w : Word) :
    (s.writeCycle addr v).regionAt w = s.regionAt w := rfl

/-! ### incPc -/

@[simp] theorem State.incPc_a (s : State) :
    s.incPc.a = s.a := rfl
@[simp] theorem State.incPc_x (s : State) :
    s.incPc.x = s.x := rfl
@[simp] theorem State.incPc_y (s : State) :
    s.incPc.y = s.y := rfl
@[simp] theorem State.incPc_sp (s : State) :
    s.incPc.sp = s.sp := rfl
@[simp] theorem State.incPc_pc (s : State) :
    s.incPc.pc = s.pc + 1 := rfl
@[simp] theorem State.incPc_p (s : State) :
    s.incPc.p = s.p := rfl
@[simp] theorem State.incPc_resetHeld (s : State) :
    s.incPc.resetHeld = s.resetHeld := rfl
@[simp] theorem State.incPc_resetPending (s : State) :
    s.incPc.resetPending = s.resetPending := rfl
@[simp] theorem State.incPc_jammed (s : State) :
    s.incPc.jammed = s.jammed := rfl
@[simp] theorem State.incPc_irqPending (s : State) :
    s.incPc.irqPending = s.irqPending := rfl
@[simp] theorem State.incPc_cycleCounter (s : State) :
    s.incPc.cycleCounter = s.cycleCounter := rfl
@[simp] theorem State.incPc_lastOpcodeAddr (s : State) :
    s.incPc.lastOpcodeAddr = s.lastOpcodeAddr := rfl
@[simp] theorem State.incPc_faultLog (s : State) :
    s.incPc.faultLog = s.faultLog := rfl
@[simp] theorem State.incPc_net (s : State) :
    s.incPc.net = s.net := rfl
@[simp] theorem State.incPc_mem (s : State) :
    s.incPc.mem = s.mem := rfl
@[simp] theorem State.incPc_platform (s : State) :
    s.incPc.platform = s.platform := rfl
@[simp] theorem State.incPc_map (s : State) :
    s.incPc.map = s.map := rfl
@[simp] theorem State.incPc_trace (s : State) :
    s.incPc.trace = s.trace := rfl
@[simp] theorem State.incPc_params (s : State) :
    s.incPc.params = s.params := rfl
@[simp] theorem State.incPc_stage (s : State) :
    s.incPc.micro.stage = s.micro.stage := rfl
@[simp] theorem State.incPc_seq (s : State) :
    s.incPc.micro.seq = s.micro.seq := rfl
@[simp] theorem State.incPc_decodeCycle (s : State) :
    s.incPc.micro.decodeCycle = s.micro.decodeCycle := rfl
@[simp] theorem State.incPc_opcode (s : State) :
    s.incPc.micro.opcode = s.micro.opcode := rfl
@[simp] theorem State.incPc_scratch (s : State) :
    s.incPc.micro.scratch = s.micro.scratch := rfl
@[simp] theorem State.incPc_disturbed (s : State) :
    s.incPc.micro.disturbed = s.micro.disturbed := rfl
@[simp] theorem State.incPc_aecLow (s : State) :
    s.incPc.aecLow = s.aecLow := rfl
@[simp] theorem State.incPc_rdyLow (s : State) :
    s.incPc.rdyLow = s.rdyLow := rfl
@[simp] theorem State.incPc_irqLow (s : State) :
    s.incPc.irqLow = s.irqLow := rfl
@[simp] theorem State.incPc_resetLow (s : State) :
    s.incPc.resetLow = s.resetLow := rfl
@[simp] theorem State.incPc_regionAt (s : State) (w : Word) :
    s.incPc.regionAt w = s.regionAt w := rfl
@[simp] theorem State.incPc_busRead (s : State) (w : Word) :
    s.incPc.busRead w = s.busRead w := rfl
@[simp] theorem State.incPc_observe (s : State) (w : Word) (d : Rw) (x : Byte) :
    s.incPc.observe w d x = s.observe w d x := rfl

/-! ### setPc -/

@[simp] theorem State.setPc_a (s : State) (target : Word) :
    (s.setPc target).a = s.a := rfl
@[simp] theorem State.setPc_x (s : State) (target : Word) :
    (s.setPc target).x = s.x := rfl
@[simp] theorem State.setPc_y (s : State) (target : Word) :
    (s.setPc target).y = s.y := rfl
@[simp] theorem State.setPc_sp (s : State) (target : Word) :
    (s.setPc target).sp = s.sp := rfl
@[simp] theorem State.setPc_pc (s : State) (target : Word) :
    (s.setPc target).pc = target := rfl
@[simp] theorem State.setPc_p (s : State) (target : Word) :
    (s.setPc target).p = s.p := rfl
@[simp] theorem State.setPc_resetHeld (s : State) (target : Word) :
    (s.setPc target).resetHeld = s.resetHeld := rfl
@[simp] theorem State.setPc_resetPending (s : State) (target : Word) :
    (s.setPc target).resetPending = s.resetPending := rfl
@[simp] theorem State.setPc_jammed (s : State) (target : Word) :
    (s.setPc target).jammed = s.jammed := rfl
@[simp] theorem State.setPc_irqPending (s : State) (target : Word) :
    (s.setPc target).irqPending = s.irqPending := rfl
@[simp] theorem State.setPc_cycleCounter (s : State) (target : Word) :
    (s.setPc target).cycleCounter = s.cycleCounter := rfl
@[simp] theorem State.setPc_lastOpcodeAddr (s : State) (target : Word) :
    (s.setPc target).lastOpcodeAddr = s.lastOpcodeAddr := rfl
@[simp] theorem State.setPc_faultLog (s : State) (target : Word) :
    (s.setPc target).faultLog = s.faultLog := rfl
@[simp] theorem State.setPc_net (s : State) (target : Word) :
    (s.setPc target).net = s.net := rfl
@[simp] theorem State.setPc_mem (s : State) (target : Word) :
    (s.setPc target).mem = s.mem := rfl
@[simp] theorem State.setPc_platform (s : State) (target : Word) :
    (s.setPc target).platform = s.platform := rfl
@[simp] theorem State.setPc_map (s : State) (target : Word) :
    (s.setPc target).map = s.map := rfl
@[simp] theorem State.setPc_trace (s : State) (target : Word) :
    (s.setPc target).trace = s.trace := rfl
@[simp] theorem State.setPc_params (s : State) (target : Word) :
    (s.setPc target).params = s.params := rfl
@[simp] theorem State.setPc_stage (s : State) (target : Word) :
    (s.setPc target).micro.stage = s.micro.stage := rfl
@[simp] theorem State.setPc_seq (s : State) (target : Word) :
    (s.setPc target).micro.seq = s.micro.seq := rfl
@[simp] theorem State.setPc_decodeCycle (s : State) (target : Word) :
    (s.setPc target).micro.decodeCycle = s.micro.decodeCycle := rfl
@[simp] theorem State.setPc_opcode (s : State) (target : Word) :
    (s.setPc target).micro.opcode = s.micro.opcode := rfl
@[simp] theorem State.setPc_scratch (s : State) (target : Word) :
    (s.setPc target).micro.scratch = s.micro.scratch := rfl
@[simp] theorem State.setPc_disturbed (s : State) (target : Word) :
    (s.setPc target).micro.disturbed = s.micro.disturbed := rfl
@[simp] theorem State.setPc_aecLow (s : State) (target : Word) :
    (s.setPc target).aecLow = s.aecLow := rfl
@[simp] theorem State.setPc_rdyLow (s : State) (target : Word) :
    (s.setPc target).rdyLow = s.rdyLow := rfl
@[simp] theorem State.setPc_irqLow (s : State) (target : Word) :
    (s.setPc target).irqLow = s.irqLow := rfl
@[simp] theorem State.setPc_resetLow (s : State) (target : Word) :
    (s.setPc target).resetLow = s.resetLow := rfl
@[simp] theorem State.setPc_regionAt (s : State) (target : Word) (w : Word) :
    (s.setPc target).regionAt w = s.regionAt w := rfl
@[simp] theorem State.setPc_busRead (s : State) (target : Word) (w : Word) :
    (s.setPc target).busRead w = s.busRead w := rfl
@[simp] theorem State.setPc_observe (s : State) (target : Word) (w : Word) (d : Rw) (x : Byte) :
    (s.setPc target).observe w d x = s.observe w d x := rfl

/-! ### incSp -/

@[simp] theorem State.incSp_a (s : State) :
    s.incSp.a = s.a := rfl
@[simp] theorem State.incSp_x (s : State) :
    s.incSp.x = s.x := rfl
@[simp] theorem State.incSp_y (s : State) :
    s.incSp.y = s.y := rfl
@[simp] theorem State.incSp_sp (s : State) :
    s.incSp.sp = s.sp + 1 := rfl
@[simp] theorem State.incSp_pc (s : State) :
    s.incSp.pc = s.pc := rfl
@[simp] theorem State.incSp_p (s : State) :
    s.incSp.p = s.p := rfl
@[simp] theorem State.incSp_resetHeld (s : State) :
    s.incSp.resetHeld = s.resetHeld := rfl
@[simp] theorem State.incSp_resetPending (s : State) :
    s.incSp.resetPending = s.resetPending := rfl
@[simp] theorem State.incSp_jammed (s : State) :
    s.incSp.jammed = s.jammed := rfl
@[simp] theorem State.incSp_irqPending (s : State) :
    s.incSp.irqPending = s.irqPending := rfl
@[simp] theorem State.incSp_cycleCounter (s : State) :
    s.incSp.cycleCounter = s.cycleCounter := rfl
@[simp] theorem State.incSp_lastOpcodeAddr (s : State) :
    s.incSp.lastOpcodeAddr = s.lastOpcodeAddr := rfl
@[simp] theorem State.incSp_faultLog (s : State) :
    s.incSp.faultLog = s.faultLog := rfl
@[simp] theorem State.incSp_net (s : State) :
    s.incSp.net = s.net := rfl
@[simp] theorem State.incSp_mem (s : State) :
    s.incSp.mem = s.mem := rfl
@[simp] theorem State.incSp_platform (s : State) :
    s.incSp.platform = s.platform := rfl
@[simp] theorem State.incSp_map (s : State) :
    s.incSp.map = s.map := rfl
@[simp] theorem State.incSp_trace (s : State) :
    s.incSp.trace = s.trace := rfl
@[simp] theorem State.incSp_params (s : State) :
    s.incSp.params = s.params := rfl
@[simp] theorem State.incSp_stage (s : State) :
    s.incSp.micro.stage = s.micro.stage := rfl
@[simp] theorem State.incSp_seq (s : State) :
    s.incSp.micro.seq = s.micro.seq := rfl
@[simp] theorem State.incSp_decodeCycle (s : State) :
    s.incSp.micro.decodeCycle = s.micro.decodeCycle := rfl
@[simp] theorem State.incSp_opcode (s : State) :
    s.incSp.micro.opcode = s.micro.opcode := rfl
@[simp] theorem State.incSp_scratch (s : State) :
    s.incSp.micro.scratch = s.micro.scratch := rfl
@[simp] theorem State.incSp_disturbed (s : State) :
    s.incSp.micro.disturbed = s.micro.disturbed := rfl
@[simp] theorem State.incSp_aecLow (s : State) :
    s.incSp.aecLow = s.aecLow := rfl
@[simp] theorem State.incSp_rdyLow (s : State) :
    s.incSp.rdyLow = s.rdyLow := rfl
@[simp] theorem State.incSp_irqLow (s : State) :
    s.incSp.irqLow = s.irqLow := rfl
@[simp] theorem State.incSp_resetLow (s : State) :
    s.incSp.resetLow = s.resetLow := rfl
@[simp] theorem State.incSp_regionAt (s : State) (w : Word) :
    s.incSp.regionAt w = s.regionAt w := rfl
@[simp] theorem State.incSp_busRead (s : State) (w : Word) :
    s.incSp.busRead w = s.busRead w := rfl
@[simp] theorem State.incSp_observe (s : State) (w : Word) (d : Rw) (x : Byte) :
    s.incSp.observe w d x = s.observe w d x := rfl

/-! ### decSp -/

@[simp] theorem State.decSp_a (s : State) :
    s.decSp.a = s.a := rfl
@[simp] theorem State.decSp_x (s : State) :
    s.decSp.x = s.x := rfl
@[simp] theorem State.decSp_y (s : State) :
    s.decSp.y = s.y := rfl
@[simp] theorem State.decSp_sp (s : State) :
    s.decSp.sp = s.sp - 1 := rfl
@[simp] theorem State.decSp_pc (s : State) :
    s.decSp.pc = s.pc := rfl
@[simp] theorem State.decSp_p (s : State) :
    s.decSp.p = s.p := rfl
@[simp] theorem State.decSp_resetHeld (s : State) :
    s.decSp.resetHeld = s.resetHeld := rfl
@[simp] theorem State.decSp_resetPending (s : State) :
    s.decSp.resetPending = s.resetPending := rfl
@[simp] theorem State.decSp_jammed (s : State) :
    s.decSp.jammed = s.jammed := rfl
@[simp] theorem State.decSp_irqPending (s : State) :
    s.decSp.irqPending = s.irqPending := rfl
@[simp] theorem State.decSp_cycleCounter (s : State) :
    s.decSp.cycleCounter = s.cycleCounter := rfl
@[simp] theorem State.decSp_lastOpcodeAddr (s : State) :
    s.decSp.lastOpcodeAddr = s.lastOpcodeAddr := rfl
@[simp] theorem State.decSp_faultLog (s : State) :
    s.decSp.faultLog = s.faultLog := rfl
@[simp] theorem State.decSp_net (s : State) :
    s.decSp.net = s.net := rfl
@[simp] theorem State.decSp_mem (s : State) :
    s.decSp.mem = s.mem := rfl
@[simp] theorem State.decSp_platform (s : State) :
    s.decSp.platform = s.platform := rfl
@[simp] theorem State.decSp_map (s : State) :
    s.decSp.map = s.map := rfl
@[simp] theorem State.decSp_trace (s : State) :
    s.decSp.trace = s.trace := rfl
@[simp] theorem State.decSp_params (s : State) :
    s.decSp.params = s.params := rfl
@[simp] theorem State.decSp_stage (s : State) :
    s.decSp.micro.stage = s.micro.stage := rfl
@[simp] theorem State.decSp_seq (s : State) :
    s.decSp.micro.seq = s.micro.seq := rfl
@[simp] theorem State.decSp_decodeCycle (s : State) :
    s.decSp.micro.decodeCycle = s.micro.decodeCycle := rfl
@[simp] theorem State.decSp_opcode (s : State) :
    s.decSp.micro.opcode = s.micro.opcode := rfl
@[simp] theorem State.decSp_scratch (s : State) :
    s.decSp.micro.scratch = s.micro.scratch := rfl
@[simp] theorem State.decSp_disturbed (s : State) :
    s.decSp.micro.disturbed = s.micro.disturbed := rfl
@[simp] theorem State.decSp_aecLow (s : State) :
    s.decSp.aecLow = s.aecLow := rfl
@[simp] theorem State.decSp_rdyLow (s : State) :
    s.decSp.rdyLow = s.rdyLow := rfl
@[simp] theorem State.decSp_irqLow (s : State) :
    s.decSp.irqLow = s.irqLow := rfl
@[simp] theorem State.decSp_resetLow (s : State) :
    s.decSp.resetLow = s.resetLow := rfl
@[simp] theorem State.decSp_regionAt (s : State) (w : Word) :
    s.decSp.regionAt w = s.regionAt w := rfl
@[simp] theorem State.decSp_busRead (s : State) (w : Word) :
    s.decSp.busRead w = s.busRead w := rfl
@[simp] theorem State.decSp_observe (s : State) (w : Word) (d : Rw) (x : Byte) :
    s.decSp.observe w d x = s.observe w d x := rfl

/-! ### setI -/

@[simp] theorem State.setI_a (s : State) :
    s.setI.a = s.a := rfl
@[simp] theorem State.setI_x (s : State) :
    s.setI.x = s.x := rfl
@[simp] theorem State.setI_y (s : State) :
    s.setI.y = s.y := rfl
@[simp] theorem State.setI_sp (s : State) :
    s.setI.sp = s.sp := rfl
@[simp] theorem State.setI_pc (s : State) :
    s.setI.pc = s.pc := rfl
@[simp] theorem State.setI_p (s : State) :
    s.setI.p = { s.p with i := true } := rfl
@[simp] theorem State.setI_resetHeld (s : State) :
    s.setI.resetHeld = s.resetHeld := rfl
@[simp] theorem State.setI_resetPending (s : State) :
    s.setI.resetPending = s.resetPending := rfl
@[simp] theorem State.setI_jammed (s : State) :
    s.setI.jammed = s.jammed := rfl
@[simp] theorem State.setI_irqPending (s : State) :
    s.setI.irqPending = s.irqPending := rfl
@[simp] theorem State.setI_cycleCounter (s : State) :
    s.setI.cycleCounter = s.cycleCounter := rfl
@[simp] theorem State.setI_lastOpcodeAddr (s : State) :
    s.setI.lastOpcodeAddr = s.lastOpcodeAddr := rfl
@[simp] theorem State.setI_faultLog (s : State) :
    s.setI.faultLog = s.faultLog := rfl
@[simp] theorem State.setI_net (s : State) :
    s.setI.net = s.net := rfl
@[simp] theorem State.setI_mem (s : State) :
    s.setI.mem = s.mem := rfl
@[simp] theorem State.setI_platform (s : State) :
    s.setI.platform = s.platform := rfl
@[simp] theorem State.setI_map (s : State) :
    s.setI.map = s.map := rfl
@[simp] theorem State.setI_trace (s : State) :
    s.setI.trace = s.trace := rfl
@[simp] theorem State.setI_params (s : State) :
    s.setI.params = s.params := rfl
@[simp] theorem State.setI_stage (s : State) :
    s.setI.micro.stage = s.micro.stage := rfl
@[simp] theorem State.setI_seq (s : State) :
    s.setI.micro.seq = s.micro.seq := rfl
@[simp] theorem State.setI_decodeCycle (s : State) :
    s.setI.micro.decodeCycle = s.micro.decodeCycle := rfl
@[simp] theorem State.setI_opcode (s : State) :
    s.setI.micro.opcode = s.micro.opcode := rfl
@[simp] theorem State.setI_scratch (s : State) :
    s.setI.micro.scratch = s.micro.scratch := rfl
@[simp] theorem State.setI_disturbed (s : State) :
    s.setI.micro.disturbed = s.micro.disturbed := rfl
@[simp] theorem State.setI_aecLow (s : State) :
    s.setI.aecLow = s.aecLow := rfl
@[simp] theorem State.setI_rdyLow (s : State) :
    s.setI.rdyLow = s.rdyLow := rfl
@[simp] theorem State.setI_irqLow (s : State) :
    s.setI.irqLow = s.irqLow := rfl
@[simp] theorem State.setI_resetLow (s : State) :
    s.setI.resetLow = s.resetLow := rfl
@[simp] theorem State.setI_regionAt (s : State) (w : Word) :
    s.setI.regionAt w = s.regionAt w := rfl
@[simp] theorem State.setI_busRead (s : State) (w : Word) :
    s.setI.busRead w = s.busRead w := rfl
@[simp] theorem State.setI_observe (s : State) (w : Word) (d : Rw) (x : Byte) :
    s.setI.observe w d x = s.observe w d x := rfl

/-! ### setNZ -/

@[simp] theorem State.setNZ_a (s : State) (v : Byte) :
    (s.setNZ v).a = s.a := rfl
@[simp] theorem State.setNZ_x (s : State) (v : Byte) :
    (s.setNZ v).x = s.x := rfl
@[simp] theorem State.setNZ_y (s : State) (v : Byte) :
    (s.setNZ v).y = s.y := rfl
@[simp] theorem State.setNZ_sp (s : State) (v : Byte) :
    (s.setNZ v).sp = s.sp := rfl
@[simp] theorem State.setNZ_pc (s : State) (v : Byte) :
    (s.setNZ v).pc = s.pc := rfl
@[simp] theorem State.setNZ_p (s : State) (v : Byte) :
    (s.setNZ v).p = s.p.setNZ v := rfl
@[simp] theorem State.setNZ_resetHeld (s : State) (v : Byte) :
    (s.setNZ v).resetHeld = s.resetHeld := rfl
@[simp] theorem State.setNZ_resetPending (s : State) (v : Byte) :
    (s.setNZ v).resetPending = s.resetPending := rfl
@[simp] theorem State.setNZ_jammed (s : State) (v : Byte) :
    (s.setNZ v).jammed = s.jammed := rfl
@[simp] theorem State.setNZ_irqPending (s : State) (v : Byte) :
    (s.setNZ v).irqPending = s.irqPending := rfl
@[simp] theorem State.setNZ_cycleCounter (s : State) (v : Byte) :
    (s.setNZ v).cycleCounter = s.cycleCounter := rfl
@[simp] theorem State.setNZ_lastOpcodeAddr (s : State) (v : Byte) :
    (s.setNZ v).lastOpcodeAddr = s.lastOpcodeAddr := rfl
@[simp] theorem State.setNZ_faultLog (s : State) (v : Byte) :
    (s.setNZ v).faultLog = s.faultLog := rfl
@[simp] theorem State.setNZ_net (s : State) (v : Byte) :
    (s.setNZ v).net = s.net := rfl
@[simp] theorem State.setNZ_mem (s : State) (v : Byte) :
    (s.setNZ v).mem = s.mem := rfl
@[simp] theorem State.setNZ_platform (s : State) (v : Byte) :
    (s.setNZ v).platform = s.platform := rfl
@[simp] theorem State.setNZ_map (s : State) (v : Byte) :
    (s.setNZ v).map = s.map := rfl
@[simp] theorem State.setNZ_trace (s : State) (v : Byte) :
    (s.setNZ v).trace = s.trace := rfl
@[simp] theorem State.setNZ_params (s : State) (v : Byte) :
    (s.setNZ v).params = s.params := rfl
@[simp] theorem State.setNZ_stage (s : State) (v : Byte) :
    (s.setNZ v).micro.stage = s.micro.stage := rfl
@[simp] theorem State.setNZ_seq (s : State) (v : Byte) :
    (s.setNZ v).micro.seq = s.micro.seq := rfl
@[simp] theorem State.setNZ_decodeCycle (s : State) (v : Byte) :
    (s.setNZ v).micro.decodeCycle = s.micro.decodeCycle := rfl
@[simp] theorem State.setNZ_opcode (s : State) (v : Byte) :
    (s.setNZ v).micro.opcode = s.micro.opcode := rfl
@[simp] theorem State.setNZ_scratch (s : State) (v : Byte) :
    (s.setNZ v).micro.scratch = s.micro.scratch := rfl
@[simp] theorem State.setNZ_disturbed (s : State) (v : Byte) :
    (s.setNZ v).micro.disturbed = s.micro.disturbed := rfl
@[simp] theorem State.setNZ_aecLow (s : State) (v : Byte) :
    (s.setNZ v).aecLow = s.aecLow := rfl
@[simp] theorem State.setNZ_rdyLow (s : State) (v : Byte) :
    (s.setNZ v).rdyLow = s.rdyLow := rfl
@[simp] theorem State.setNZ_irqLow (s : State) (v : Byte) :
    (s.setNZ v).irqLow = s.irqLow := rfl
@[simp] theorem State.setNZ_resetLow (s : State) (v : Byte) :
    (s.setNZ v).resetLow = s.resetLow := rfl
@[simp] theorem State.setNZ_regionAt (s : State) (v : Byte) (w : Word) :
    (s.setNZ v).regionAt w = s.regionAt w := rfl
@[simp] theorem State.setNZ_busRead (s : State) (v : Byte) (w : Word) :
    (s.setNZ v).busRead w = s.busRead w := rfl
@[simp] theorem State.setNZ_observe (s : State) (v : Byte) (w : Word) (d : Rw) (x : Byte) :
    (s.setNZ v).observe w d x = s.observe w d x := rfl

/-! ### latchOpcode -/

@[simp] theorem State.latchOpcode_a (s : State) (opcode : Byte) :
    (s.latchOpcode opcode).a = s.a := rfl
@[simp] theorem State.latchOpcode_x (s : State) (opcode : Byte) :
    (s.latchOpcode opcode).x = s.x := rfl
@[simp] theorem State.latchOpcode_y (s : State) (opcode : Byte) :
    (s.latchOpcode opcode).y = s.y := rfl
@[simp] theorem State.latchOpcode_sp (s : State) (opcode : Byte) :
    (s.latchOpcode opcode).sp = s.sp := rfl
@[simp] theorem State.latchOpcode_pc (s : State) (opcode : Byte) :
    (s.latchOpcode opcode).pc = s.pc + 1 := rfl
@[simp] theorem State.latchOpcode_p (s : State) (opcode : Byte) :
    (s.latchOpcode opcode).p = s.p := rfl
@[simp] theorem State.latchOpcode_resetHeld (s : State) (opcode : Byte) :
    (s.latchOpcode opcode).resetHeld = s.resetHeld := rfl
@[simp] theorem State.latchOpcode_resetPending (s : State) (opcode : Byte) :
    (s.latchOpcode opcode).resetPending = s.resetPending := rfl
@[simp] theorem State.latchOpcode_jammed (s : State) (opcode : Byte) :
    (s.latchOpcode opcode).jammed = s.jammed := rfl
@[simp] theorem State.latchOpcode_irqPending (s : State) (opcode : Byte) :
    (s.latchOpcode opcode).irqPending = s.irqPending := rfl
@[simp] theorem State.latchOpcode_cycleCounter (s : State) (opcode : Byte) :
    (s.latchOpcode opcode).cycleCounter = s.cycleCounter := rfl
@[simp] theorem State.latchOpcode_lastOpcodeAddr (s : State) (opcode : Byte) :
    (s.latchOpcode opcode).lastOpcodeAddr = s.pc := rfl
@[simp] theorem State.latchOpcode_faultLog (s : State) (opcode : Byte) :
    (s.latchOpcode opcode).faultLog = s.faultLog := rfl
@[simp] theorem State.latchOpcode_net (s : State) (opcode : Byte) :
    (s.latchOpcode opcode).net = s.net := rfl
@[simp] theorem State.latchOpcode_mem (s : State) (opcode : Byte) :
    (s.latchOpcode opcode).mem = s.mem := rfl
@[simp] theorem State.latchOpcode_platform (s : State) (opcode : Byte) :
    (s.latchOpcode opcode).platform = s.platform := rfl
@[simp] theorem State.latchOpcode_map (s : State) (opcode : Byte) :
    (s.latchOpcode opcode).map = s.map := rfl
@[simp] theorem State.latchOpcode_trace (s : State) (opcode : Byte) :
    (s.latchOpcode opcode).trace = s.trace := rfl
@[simp] theorem State.latchOpcode_params (s : State) (opcode : Byte) :
    (s.latchOpcode opcode).params = s.params := rfl
@[simp] theorem State.latchOpcode_stage (s : State) (opcode : Byte) :
    (s.latchOpcode opcode).micro.stage = .decode := rfl
@[simp] theorem State.latchOpcode_seq (s : State) (opcode : Byte) :
    (s.latchOpcode opcode).micro.seq = .instr := rfl
@[simp] theorem State.latchOpcode_decodeCycle (s : State) (opcode : Byte) :
    (s.latchOpcode opcode).micro.decodeCycle = 1 := rfl
@[simp] theorem State.latchOpcode_opcode (s : State) (opcode : Byte) :
    (s.latchOpcode opcode).micro.opcode = opcode := rfl
@[simp] theorem State.latchOpcode_scratch (s : State) (opcode : Byte) :
    (s.latchOpcode opcode).micro.scratch = s.micro.scratch := rfl
@[simp] theorem State.latchOpcode_disturbed (s : State) (opcode : Byte) :
    (s.latchOpcode opcode).micro.disturbed = (s.aecLow || s.rdyLow) := rfl
@[simp] theorem State.latchOpcode_aecLow (s : State) (opcode : Byte) :
    (s.latchOpcode opcode).aecLow = s.aecLow := rfl
@[simp] theorem State.latchOpcode_rdyLow (s : State) (opcode : Byte) :
    (s.latchOpcode opcode).rdyLow = s.rdyLow := rfl
@[simp] theorem State.latchOpcode_irqLow (s : State) (opcode : Byte) :
    (s.latchOpcode opcode).irqLow = s.irqLow := rfl
@[simp] theorem State.latchOpcode_resetLow (s : State) (opcode : Byte) :
    (s.latchOpcode opcode).resetLow = s.resetLow := rfl
@[simp] theorem State.latchOpcode_regionAt (s : State) (opcode : Byte) (w : Word) :
    (s.latchOpcode opcode).regionAt w = s.regionAt w := rfl
@[simp] theorem State.latchOpcode_busRead (s : State) (opcode : Byte) (w : Word) :
    (s.latchOpcode opcode).busRead w = s.busRead w := rfl
@[simp] theorem State.latchOpcode_observe (s : State) (opcode : Byte) (w : Word) (d : Rw) (x : Byte) :
    (s.latchOpcode opcode).observe w d x = s.observe w d x := rfl

/-! ### toBoundary -/

@[simp] theorem State.toBoundary_a (s : State) :
    s.toBoundary.a = s.a := rfl
@[simp] theorem State.toBoundary_x (s : State) :
    s.toBoundary.x = s.x := rfl
@[simp] theorem State.toBoundary_y (s : State) :
    s.toBoundary.y = s.y := rfl
@[simp] theorem State.toBoundary_sp (s : State) :
    s.toBoundary.sp = s.sp := rfl
@[simp] theorem State.toBoundary_pc (s : State) :
    s.toBoundary.pc = s.pc := rfl
@[simp] theorem State.toBoundary_p (s : State) :
    s.toBoundary.p = s.p := rfl
@[simp] theorem State.toBoundary_resetHeld (s : State) :
    s.toBoundary.resetHeld = s.resetHeld := rfl
@[simp] theorem State.toBoundary_resetPending (s : State) :
    s.toBoundary.resetPending = s.resetPending := rfl
@[simp] theorem State.toBoundary_jammed (s : State) :
    s.toBoundary.jammed = s.jammed := rfl
@[simp] theorem State.toBoundary_irqPending (s : State) :
    s.toBoundary.irqPending = s.irqPending := rfl
@[simp] theorem State.toBoundary_cycleCounter (s : State) :
    s.toBoundary.cycleCounter = s.cycleCounter := rfl
@[simp] theorem State.toBoundary_lastOpcodeAddr (s : State) :
    s.toBoundary.lastOpcodeAddr = s.lastOpcodeAddr := rfl
@[simp] theorem State.toBoundary_faultLog (s : State) :
    s.toBoundary.faultLog = s.faultLog := rfl
@[simp] theorem State.toBoundary_net (s : State) :
    s.toBoundary.net = s.net := rfl
@[simp] theorem State.toBoundary_mem (s : State) :
    s.toBoundary.mem = s.mem := rfl
@[simp] theorem State.toBoundary_platform (s : State) :
    s.toBoundary.platform = s.platform := rfl
@[simp] theorem State.toBoundary_map (s : State) :
    s.toBoundary.map = s.map := rfl
@[simp] theorem State.toBoundary_trace (s : State) :
    s.toBoundary.trace = s.trace := rfl
@[simp] theorem State.toBoundary_params (s : State) :
    s.toBoundary.params = s.params := rfl
@[simp] theorem State.toBoundary_stage (s : State) :
    s.toBoundary.micro.stage = .opcode := rfl
@[simp] theorem State.toBoundary_seq (s : State) :
    s.toBoundary.micro.seq = .instr := rfl
@[simp] theorem State.toBoundary_decodeCycle (s : State) :
    s.toBoundary.micro.decodeCycle = s.micro.decodeCycle := rfl
@[simp] theorem State.toBoundary_opcode (s : State) :
    s.toBoundary.micro.opcode = s.micro.opcode := rfl
@[simp] theorem State.toBoundary_scratch (s : State) :
    s.toBoundary.micro.scratch = Scratch.atBoundary s.cycleCounter := rfl
@[simp] theorem State.toBoundary_disturbed (s : State) :
    s.toBoundary.micro.disturbed = false := rfl
@[simp] theorem State.toBoundary_aecLow (s : State) :
    s.toBoundary.aecLow = s.aecLow := rfl
@[simp] theorem State.toBoundary_rdyLow (s : State) :
    s.toBoundary.rdyLow = s.rdyLow := rfl
@[simp] theorem State.toBoundary_irqLow (s : State) :
    s.toBoundary.irqLow = s.irqLow := rfl
@[simp] theorem State.toBoundary_resetLow (s : State) :
    s.toBoundary.resetLow = s.resetLow := rfl
@[simp] theorem State.toBoundary_regionAt (s : State) (w : Word) :
    s.toBoundary.regionAt w = s.regionAt w := rfl
@[simp] theorem State.toBoundary_busRead (s : State) (w : Word) :
    s.toBoundary.busRead w = s.busRead w := rfl
@[simp] theorem State.toBoundary_observe (s : State) (w : Word) (d : Rw) (x : Byte) :
    s.toBoundary.observe w d x = s.observe w d x := rfl

/-! ### poll -/

@[simp] theorem State.poll_a (s : State) :
    s.poll.a = s.a := by
  unfold State.poll; split <;> rfl
@[simp] theorem State.poll_x (s : State) :
    s.poll.x = s.x := by
  unfold State.poll; split <;> rfl
@[simp] theorem State.poll_y (s : State) :
    s.poll.y = s.y := by
  unfold State.poll; split <;> rfl
@[simp] theorem State.poll_sp (s : State) :
    s.poll.sp = s.sp := by
  unfold State.poll; split <;> rfl
@[simp] theorem State.poll_pc (s : State) :
    s.poll.pc = s.pc := by
  unfold State.poll; split <;> rfl
@[simp] theorem State.poll_p (s : State) :
    s.poll.p = s.p := by
  unfold State.poll; split <;> rfl
@[simp] theorem State.poll_resetHeld (s : State) :
    s.poll.resetHeld = s.resetHeld := by
  unfold State.poll; split <;> rfl
@[simp] theorem State.poll_resetPending (s : State) :
    s.poll.resetPending = s.resetPending := by
  unfold State.poll; split <;> rfl
@[simp] theorem State.poll_jammed (s : State) :
    s.poll.jammed = s.jammed := by
  unfold State.poll; split <;> rfl
@[simp] theorem State.poll_cycleCounter (s : State) :
    s.poll.cycleCounter = s.cycleCounter := by
  unfold State.poll; split <;> rfl
@[simp] theorem State.poll_lastOpcodeAddr (s : State) :
    s.poll.lastOpcodeAddr = s.lastOpcodeAddr := by
  unfold State.poll; split <;> rfl
@[simp] theorem State.poll_faultLog (s : State) :
    s.poll.faultLog = s.faultLog := by
  unfold State.poll; split <;> rfl
@[simp] theorem State.poll_net (s : State) :
    s.poll.net = s.net := by
  unfold State.poll; split <;> rfl
@[simp] theorem State.poll_mem (s : State) :
    s.poll.mem = s.mem := by
  unfold State.poll; split <;> rfl
@[simp] theorem State.poll_platform (s : State) :
    s.poll.platform = s.platform := by
  unfold State.poll; split <;> rfl
@[simp] theorem State.poll_map (s : State) :
    s.poll.map = s.map := by
  unfold State.poll; split <;> rfl
@[simp] theorem State.poll_trace (s : State) :
    s.poll.trace = s.trace := by
  unfold State.poll; split <;> rfl
@[simp] theorem State.poll_params (s : State) :
    s.poll.params = s.params := by
  unfold State.poll; split <;> rfl
@[simp] theorem State.poll_stage (s : State) :
    s.poll.micro.stage = s.micro.stage := by
  unfold State.poll; split <;> rfl
@[simp] theorem State.poll_seq (s : State) :
    s.poll.micro.seq = s.micro.seq := by
  unfold State.poll; split <;> rfl
@[simp] theorem State.poll_decodeCycle (s : State) :
    s.poll.micro.decodeCycle = s.micro.decodeCycle := by
  unfold State.poll; split <;> rfl
@[simp] theorem State.poll_opcode (s : State) :
    s.poll.micro.opcode = s.micro.opcode := by
  unfold State.poll; split <;> rfl
@[simp] theorem State.poll_scratch (s : State) :
    s.poll.micro.scratch = s.micro.scratch := by
  unfold State.poll; split <;> rfl
@[simp] theorem State.poll_disturbed (s : State) :
    s.poll.micro.disturbed = s.micro.disturbed := by
  unfold State.poll; split <;> rfl
@[simp] theorem State.poll_aecLow (s : State) :
    s.poll.aecLow = s.aecLow := by
  unfold State.poll; split <;> rfl
@[simp] theorem State.poll_rdyLow (s : State) :
    s.poll.rdyLow = s.rdyLow := by
  unfold State.poll; split <;> rfl
@[simp] theorem State.poll_irqLow (s : State) :
    s.poll.irqLow = s.irqLow := by
  unfold State.poll; split <;> rfl
@[simp] theorem State.poll_resetLow (s : State) :
    s.poll.resetLow = s.resetLow := by
  unfold State.poll; split <;> rfl
@[simp] theorem State.poll_regionAt (s : State) (w : Word) :
    s.poll.regionAt w = s.regionAt w := by
  unfold State.poll; split <;> rfl
@[simp] theorem State.poll_busRead (s : State) (w : Word) :
    s.poll.busRead w = s.busRead w := by
  unfold State.poll; split <;> rfl
@[simp] theorem State.poll_observe (s : State) (w : Word) (d : Rw) (x : Byte) :
    s.poll.observe w d x = s.observe w d x := by
  unfold State.poll; split <;> rfl

/-! ### endInstr -/

@[simp] theorem State.endInstr_a (s : State) :
    s.endInstr.a = s.a := by
  unfold State.endInstr; split <;> rfl
@[simp] theorem State.endInstr_x (s : State) :
    s.endInstr.x = s.x := by
  unfold State.endInstr; split <;> rfl
@[simp] theorem State.endInstr_y (s : State) :
    s.endInstr.y = s.y := by
  unfold State.endInstr; split <;> rfl
@[simp] theorem State.endInstr_sp (s : State) :
    s.endInstr.sp = s.sp := by
  unfold State.endInstr; split <;> rfl
@[simp] theorem State.endInstr_pc (s : State) :
    s.endInstr.pc = s.pc := by
  unfold State.endInstr; split <;> rfl
@[simp] theorem State.endInstr_p (s : State) :
    s.endInstr.p = s.p := by
  unfold State.endInstr; split <;> rfl
@[simp] theorem State.endInstr_resetHeld (s : State) :
    s.endInstr.resetHeld = s.resetHeld := by
  unfold State.endInstr; split <;> rfl
@[simp] theorem State.endInstr_resetPending (s : State) :
    s.endInstr.resetPending = s.resetPending := by
  unfold State.endInstr; split <;> rfl
@[simp] theorem State.endInstr_jammed (s : State) :
    s.endInstr.jammed = s.jammed := by
  unfold State.endInstr; split <;> rfl
@[simp] theorem State.endInstr_cycleCounter (s : State) :
    s.endInstr.cycleCounter = s.cycleCounter := by
  unfold State.endInstr; split <;> rfl
@[simp] theorem State.endInstr_lastOpcodeAddr (s : State) :
    s.endInstr.lastOpcodeAddr = s.lastOpcodeAddr := by
  unfold State.endInstr; split <;> rfl
@[simp] theorem State.endInstr_faultLog (s : State) :
    s.endInstr.faultLog = s.faultLog := by
  unfold State.endInstr; split <;> rfl
@[simp] theorem State.endInstr_net (s : State) :
    s.endInstr.net = s.net := by
  unfold State.endInstr; split <;> rfl
@[simp] theorem State.endInstr_mem (s : State) :
    s.endInstr.mem = s.mem := by
  unfold State.endInstr; split <;> rfl
@[simp] theorem State.endInstr_platform (s : State) :
    s.endInstr.platform = s.platform := by
  unfold State.endInstr; split <;> rfl
@[simp] theorem State.endInstr_map (s : State) :
    s.endInstr.map = s.map := by
  unfold State.endInstr; split <;> rfl
@[simp] theorem State.endInstr_trace (s : State) :
    s.endInstr.trace = s.trace := by
  unfold State.endInstr; split <;> rfl
@[simp] theorem State.endInstr_params (s : State) :
    s.endInstr.params = s.params := by
  unfold State.endInstr; split <;> rfl
@[simp] theorem State.endInstr_stage (s : State) :
    s.endInstr.micro.stage = .opcode := by
  unfold State.endInstr; split <;> rfl
@[simp] theorem State.endInstr_seq (s : State) :
    s.endInstr.micro.seq = .instr := by
  unfold State.endInstr; split <;> rfl
@[simp] theorem State.endInstr_decodeCycle (s : State) :
    s.endInstr.micro.decodeCycle = s.micro.decodeCycle := by
  unfold State.endInstr; split <;> rfl
@[simp] theorem State.endInstr_opcode (s : State) :
    s.endInstr.micro.opcode = s.micro.opcode := by
  unfold State.endInstr; split <;> rfl
@[simp] theorem State.endInstr_scratch (s : State) :
    s.endInstr.micro.scratch = Scratch.atBoundary s.cycleCounter := by
  unfold State.endInstr; split <;> rfl
@[simp] theorem State.endInstr_disturbed (s : State) :
    s.endInstr.micro.disturbed = false := by
  unfold State.endInstr; split <;> rfl
@[simp] theorem State.endInstr_aecLow (s : State) :
    s.endInstr.aecLow = s.aecLow := by
  unfold State.endInstr; split <;> rfl
@[simp] theorem State.endInstr_rdyLow (s : State) :
    s.endInstr.rdyLow = s.rdyLow := by
  unfold State.endInstr; split <;> rfl
@[simp] theorem State.endInstr_irqLow (s : State) :
    s.endInstr.irqLow = s.irqLow := by
  unfold State.endInstr; split <;> rfl
@[simp] theorem State.endInstr_resetLow (s : State) :
    s.endInstr.resetLow = s.resetLow := by
  unfold State.endInstr; split <;> rfl
@[simp] theorem State.endInstr_regionAt (s : State) (w : Word) :
    s.endInstr.regionAt w = s.regionAt w := by
  unfold State.endInstr; split <;> rfl
@[simp] theorem State.endInstr_busRead (s : State) (w : Word) :
    s.endInstr.busRead w = s.busRead w := by
  unfold State.endInstr; split <;> rfl
@[simp] theorem State.endInstr_observe (s : State) (w : Word) (d : Rw) (x : Byte) :
    s.endInstr.observe w d x = s.observe w d x := by
  unfold State.endInstr; split <;> rfl

/-! ### endTrap -/

@[simp] theorem State.endTrap_a (s : State) :
    s.endTrap.a = s.a := by
  unfold State.endTrap; split <;> rfl
@[simp] theorem State.endTrap_x (s : State) :
    s.endTrap.x = s.x := by
  unfold State.endTrap; split <;> rfl
@[simp] theorem State.endTrap_y (s : State) :
    s.endTrap.y = s.y := by
  unfold State.endTrap; split <;> rfl
@[simp] theorem State.endTrap_sp (s : State) :
    s.endTrap.sp = s.sp := by
  unfold State.endTrap; split <;> rfl
@[simp] theorem State.endTrap_pc (s : State) :
    s.endTrap.pc = s.pc := by
  unfold State.endTrap; split <;> rfl
@[simp] theorem State.endTrap_p (s : State) :
    s.endTrap.p = s.p := by
  unfold State.endTrap; split <;> rfl
@[simp] theorem State.endTrap_resetHeld (s : State) :
    s.endTrap.resetHeld = s.resetHeld := by
  unfold State.endTrap; split <;> rfl
@[simp] theorem State.endTrap_resetPending (s : State) :
    s.endTrap.resetPending = s.resetPending := by
  unfold State.endTrap; split <;> rfl
@[simp] theorem State.endTrap_jammed (s : State) :
    s.endTrap.jammed = s.jammed := by
  unfold State.endTrap; split <;> rfl
@[simp] theorem State.endTrap_cycleCounter (s : State) :
    s.endTrap.cycleCounter = s.cycleCounter := by
  unfold State.endTrap; split <;> rfl
@[simp] theorem State.endTrap_lastOpcodeAddr (s : State) :
    s.endTrap.lastOpcodeAddr = s.lastOpcodeAddr := by
  unfold State.endTrap; split <;> rfl
@[simp] theorem State.endTrap_faultLog (s : State) :
    s.endTrap.faultLog = s.faultLog := by
  unfold State.endTrap; split <;> rfl
@[simp] theorem State.endTrap_net (s : State) :
    s.endTrap.net = s.net := by
  unfold State.endTrap; split <;> rfl
@[simp] theorem State.endTrap_mem (s : State) :
    s.endTrap.mem = s.mem := by
  unfold State.endTrap; split <;> rfl
@[simp] theorem State.endTrap_platform (s : State) :
    s.endTrap.platform = s.platform := by
  unfold State.endTrap; split <;> rfl
@[simp] theorem State.endTrap_map (s : State) :
    s.endTrap.map = s.map := by
  unfold State.endTrap; split <;> rfl
@[simp] theorem State.endTrap_trace (s : State) :
    s.endTrap.trace = s.trace := by
  unfold State.endTrap; split <;> rfl
@[simp] theorem State.endTrap_params (s : State) :
    s.endTrap.params = s.params := by
  unfold State.endTrap; split <;> rfl
@[simp] theorem State.endTrap_stage (s : State) :
    s.endTrap.micro.stage = .opcode := by
  unfold State.endTrap; split <;> rfl
@[simp] theorem State.endTrap_seq (s : State) :
    s.endTrap.micro.seq = .instr := by
  unfold State.endTrap; split <;> rfl
@[simp] theorem State.endTrap_decodeCycle (s : State) :
    s.endTrap.micro.decodeCycle = s.micro.decodeCycle := by
  unfold State.endTrap; split <;> rfl
@[simp] theorem State.endTrap_opcode (s : State) :
    s.endTrap.micro.opcode = s.micro.opcode := by
  unfold State.endTrap; split <;> rfl
@[simp] theorem State.endTrap_scratch (s : State) :
    s.endTrap.micro.scratch = Scratch.atBoundary s.cycleCounter := by
  unfold State.endTrap; split <;> rfl
@[simp] theorem State.endTrap_disturbed (s : State) :
    s.endTrap.micro.disturbed = false := by
  unfold State.endTrap; split <;> rfl
@[simp] theorem State.endTrap_aecLow (s : State) :
    s.endTrap.aecLow = s.aecLow := by
  unfold State.endTrap; split <;> rfl
@[simp] theorem State.endTrap_rdyLow (s : State) :
    s.endTrap.rdyLow = s.rdyLow := by
  unfold State.endTrap; split <;> rfl
@[simp] theorem State.endTrap_irqLow (s : State) :
    s.endTrap.irqLow = s.irqLow := by
  unfold State.endTrap; split <;> rfl
@[simp] theorem State.endTrap_resetLow (s : State) :
    s.endTrap.resetLow = s.resetLow := by
  unfold State.endTrap; split <;> rfl
@[simp] theorem State.endTrap_regionAt (s : State) (w : Word) :
    s.endTrap.regionAt w = s.regionAt w := by
  unfold State.endTrap; split <;> rfl
@[simp] theorem State.endTrap_busRead (s : State) (w : Word) :
    s.endTrap.busRead w = s.busRead w := by
  unfold State.endTrap; split <;> rfl
@[simp] theorem State.endTrap_observe (s : State) (w : Word) (d : Rw) (x : Byte) :
    s.endTrap.observe w d x = s.observe w d x := by
  unfold State.endTrap; split <;> rfl

/-! ### startIrq -/

@[simp] theorem State.startIrq_a (s : State) :
    s.startIrq.a = s.a := rfl
@[simp] theorem State.startIrq_x (s : State) :
    s.startIrq.x = s.x := rfl
@[simp] theorem State.startIrq_y (s : State) :
    s.startIrq.y = s.y := rfl
@[simp] theorem State.startIrq_sp (s : State) :
    s.startIrq.sp = s.sp := rfl
@[simp] theorem State.startIrq_pc (s : State) :
    s.startIrq.pc = s.pc := rfl
@[simp] theorem State.startIrq_p (s : State) :
    s.startIrq.p = s.p := rfl
@[simp] theorem State.startIrq_resetHeld (s : State) :
    s.startIrq.resetHeld = s.resetHeld := rfl
@[simp] theorem State.startIrq_resetPending (s : State) :
    s.startIrq.resetPending = s.resetPending := rfl
@[simp] theorem State.startIrq_jammed (s : State) :
    s.startIrq.jammed = s.jammed := rfl
@[simp] theorem State.startIrq_irqPending (s : State) :
    s.startIrq.irqPending = false := rfl
@[simp] theorem State.startIrq_cycleCounter (s : State) :
    s.startIrq.cycleCounter = s.cycleCounter := rfl
@[simp] theorem State.startIrq_lastOpcodeAddr (s : State) :
    s.startIrq.lastOpcodeAddr = s.lastOpcodeAddr := rfl
@[simp] theorem State.startIrq_faultLog (s : State) :
    s.startIrq.faultLog = s.faultLog := rfl
@[simp] theorem State.startIrq_net (s : State) :
    s.startIrq.net = s.net := rfl
@[simp] theorem State.startIrq_mem (s : State) :
    s.startIrq.mem = s.mem := rfl
@[simp] theorem State.startIrq_platform (s : State) :
    s.startIrq.platform = s.platform := rfl
@[simp] theorem State.startIrq_map (s : State) :
    s.startIrq.map = s.map := rfl
@[simp] theorem State.startIrq_trace (s : State) :
    s.startIrq.trace = s.trace := rfl
@[simp] theorem State.startIrq_params (s : State) :
    s.startIrq.params = s.params := rfl
@[simp] theorem State.startIrq_stage (s : State) :
    s.startIrq.micro.stage = .decode := rfl
@[simp] theorem State.startIrq_seq (s : State) :
    s.startIrq.micro.seq = .irq := rfl
@[simp] theorem State.startIrq_decodeCycle (s : State) :
    s.startIrq.micro.decodeCycle = 0 := rfl
@[simp] theorem State.startIrq_opcode (s : State) :
    s.startIrq.micro.opcode = s.micro.opcode := rfl
@[simp] theorem State.startIrq_scratch (s : State) :
    s.startIrq.micro.scratch = s.micro.scratch := rfl
@[simp] theorem State.startIrq_disturbed (s : State) :
    s.startIrq.micro.disturbed = false := rfl
@[simp] theorem State.startIrq_aecLow (s : State) :
    s.startIrq.aecLow = s.aecLow := rfl
@[simp] theorem State.startIrq_rdyLow (s : State) :
    s.startIrq.rdyLow = s.rdyLow := rfl
@[simp] theorem State.startIrq_irqLow (s : State) :
    s.startIrq.irqLow = s.irqLow := rfl
@[simp] theorem State.startIrq_resetLow (s : State) :
    s.startIrq.resetLow = s.resetLow := rfl
@[simp] theorem State.startIrq_regionAt (s : State) (w : Word) :
    s.startIrq.regionAt w = s.regionAt w := rfl
@[simp] theorem State.startIrq_busRead (s : State) (w : Word) :
    s.startIrq.busRead w = s.busRead w := rfl
@[simp] theorem State.startIrq_observe (s : State) (w : Word) (d : Rw) (x : Byte) :
    s.startIrq.observe w d x = s.observe w d x := rfl

/-! ### startReset -/

@[simp] theorem State.startReset_a (s : State) :
    s.startReset.a = s.a := rfl
@[simp] theorem State.startReset_x (s : State) :
    s.startReset.x = s.x := rfl
@[simp] theorem State.startReset_y (s : State) :
    s.startReset.y = s.y := rfl
@[simp] theorem State.startReset_sp (s : State) :
    s.startReset.sp = s.sp := rfl
@[simp] theorem State.startReset_pc (s : State) :
    s.startReset.pc = s.pc := rfl
@[simp] theorem State.startReset_p (s : State) :
    s.startReset.p = s.p := rfl
@[simp] theorem State.startReset_resetHeld (s : State) :
    s.startReset.resetHeld = s.resetHeld := rfl
@[simp] theorem State.startReset_resetPending (s : State) :
    s.startReset.resetPending = false := rfl
@[simp] theorem State.startReset_jammed (s : State) :
    s.startReset.jammed = s.jammed := rfl
@[simp] theorem State.startReset_irqPending (s : State) :
    s.startReset.irqPending = false := rfl
@[simp] theorem State.startReset_cycleCounter (s : State) :
    s.startReset.cycleCounter = s.cycleCounter := rfl
@[simp] theorem State.startReset_lastOpcodeAddr (s : State) :
    s.startReset.lastOpcodeAddr = s.lastOpcodeAddr := rfl
@[simp] theorem State.startReset_faultLog (s : State) :
    s.startReset.faultLog = s.faultLog := rfl
@[simp] theorem State.startReset_net (s : State) :
    s.startReset.net = s.net := rfl
@[simp] theorem State.startReset_mem (s : State) :
    s.startReset.mem = s.mem := rfl
@[simp] theorem State.startReset_platform (s : State) :
    s.startReset.platform = s.platform := rfl
@[simp] theorem State.startReset_map (s : State) :
    s.startReset.map = s.map := rfl
@[simp] theorem State.startReset_trace (s : State) :
    s.startReset.trace = s.trace := rfl
@[simp] theorem State.startReset_params (s : State) :
    s.startReset.params = s.params := rfl
@[simp] theorem State.startReset_stage (s : State) :
    s.startReset.micro.stage = .decode := rfl
@[simp] theorem State.startReset_seq (s : State) :
    s.startReset.micro.seq = .reset := rfl
@[simp] theorem State.startReset_decodeCycle (s : State) :
    s.startReset.micro.decodeCycle = 0 := rfl
@[simp] theorem State.startReset_opcode (s : State) :
    s.startReset.micro.opcode = s.micro.opcode := rfl
@[simp] theorem State.startReset_scratch (s : State) :
    s.startReset.micro.scratch = s.micro.scratch := rfl
@[simp] theorem State.startReset_disturbed (s : State) :
    s.startReset.micro.disturbed = false := rfl
@[simp] theorem State.startReset_aecLow (s : State) :
    s.startReset.aecLow = s.aecLow := rfl
@[simp] theorem State.startReset_rdyLow (s : State) :
    s.startReset.rdyLow = s.rdyLow := rfl
@[simp] theorem State.startReset_irqLow (s : State) :
    s.startReset.irqLow = s.irqLow := rfl
@[simp] theorem State.startReset_resetLow (s : State) :
    s.startReset.resetLow = s.resetLow := rfl
@[simp] theorem State.startReset_regionAt (s : State) (w : Word) :
    s.startReset.regionAt w = s.regionAt w := rfl
@[simp] theorem State.startReset_busRead (s : State) (w : Word) :
    s.startReset.busRead w = s.busRead w := rfl
@[simp] theorem State.startReset_observe (s : State) (w : Word) (d : Rw) (x : Byte) :
    s.startReset.observe w d x = s.observe w d x := rfl

/-! ### idleCycle -/

@[simp] theorem State.idleCycle_a (s : State) :
    s.idleCycle.a = s.a := rfl
@[simp] theorem State.idleCycle_x (s : State) :
    s.idleCycle.x = s.x := rfl
@[simp] theorem State.idleCycle_y (s : State) :
    s.idleCycle.y = s.y := rfl
@[simp] theorem State.idleCycle_sp (s : State) :
    s.idleCycle.sp = s.sp := rfl
@[simp] theorem State.idleCycle_pc (s : State) :
    s.idleCycle.pc = s.pc := rfl
@[simp] theorem State.idleCycle_p (s : State) :
    s.idleCycle.p = s.p := rfl
@[simp] theorem State.idleCycle_resetHeld (s : State) :
    s.idleCycle.resetHeld = s.resetHeld := rfl
@[simp] theorem State.idleCycle_resetPending (s : State) :
    s.idleCycle.resetPending = s.resetPending := rfl
@[simp] theorem State.idleCycle_jammed (s : State) :
    s.idleCycle.jammed = s.jammed := rfl
@[simp] theorem State.idleCycle_irqPending (s : State) :
    s.idleCycle.irqPending = s.irqPending := rfl
@[simp] theorem State.idleCycle_cycleCounter (s : State) :
    s.idleCycle.cycleCounter = s.cycleCounter := rfl
@[simp] theorem State.idleCycle_lastOpcodeAddr (s : State) :
    s.idleCycle.lastOpcodeAddr = s.lastOpcodeAddr := rfl
@[simp] theorem State.idleCycle_faultLog (s : State) :
    s.idleCycle.faultLog = s.faultLog := rfl
@[simp] theorem State.idleCycle_net (s : State) :
    s.idleCycle.net = { s.net with cpu := s.net.cpu.afterIdle } := rfl
@[simp] theorem State.idleCycle_mem (s : State) :
    s.idleCycle.mem = s.mem := rfl
@[simp] theorem State.idleCycle_platform (s : State) :
    s.idleCycle.platform = s.platform := rfl
@[simp] theorem State.idleCycle_map (s : State) :
    s.idleCycle.map = s.map := rfl
@[simp] theorem State.idleCycle_trace (s : State) :
    s.idleCycle.trace = s.trace := rfl
@[simp] theorem State.idleCycle_params (s : State) :
    s.idleCycle.params = s.params := rfl
@[simp] theorem State.idleCycle_stage (s : State) :
    s.idleCycle.micro.stage = s.micro.stage := rfl
@[simp] theorem State.idleCycle_seq (s : State) :
    s.idleCycle.micro.seq = s.micro.seq := rfl
@[simp] theorem State.idleCycle_decodeCycle (s : State) :
    s.idleCycle.micro.decodeCycle = s.micro.decodeCycle := rfl
@[simp] theorem State.idleCycle_opcode (s : State) :
    s.idleCycle.micro.opcode = s.micro.opcode := rfl
@[simp] theorem State.idleCycle_scratch (s : State) :
    s.idleCycle.micro.scratch = s.micro.scratch := rfl
@[simp] theorem State.idleCycle_disturbed (s : State) :
    s.idleCycle.micro.disturbed = s.micro.disturbed := rfl
@[simp] theorem State.idleCycle_aecLow (s : State) :
    s.idleCycle.aecLow = s.aecLow := by
  simp [State.aecLow]
@[simp] theorem State.idleCycle_rdyLow (s : State) :
    s.idleCycle.rdyLow = s.rdyLow := by
  simp [State.rdyLow]
@[simp] theorem State.idleCycle_irqLow (s : State) :
    s.idleCycle.irqLow = s.irqLow := by
  simp [State.irqLow]
@[simp] theorem State.idleCycle_resetLow (s : State) :
    s.idleCycle.resetLow = s.resetLow := by
  simp [State.resetLow]
@[simp] theorem State.idleCycle_regionAt (s : State) (w : Word) :
    s.idleCycle.regionAt w = s.regionAt w := rfl
@[simp] theorem State.idleCycle_busRead (s : State) (w : Word) :
    s.idleCycle.busRead w = s.busRead w := by
  simp [State.busRead]
@[simp] theorem State.idleCycle_observe (s : State) (w : Word) (d : Rw) (x : Byte) :
    s.idleCycle.observe w d x = s.observe w d x := by
  simp [State.observe]

end Sys2Proof.Machine
end

