-- ==== Sys2Proof/Laws/Cycles.lean ====
section
/-! SUPPORT. What the shared operations do, said once: `After` is all that a list of transactions does to a state; `AtOperand`
is a state that has performed the cycles of an addressing mode before the operand's. An instruction of a class completes as
`Reads`, `Writes`, `Modifies`, `ReadsImm` or `Implied` say when its mode has such a head. -/

namespace Sys2Proof.Machine

/-- The state with other programmer's registers. -/
def State.withRegs (s : State) (r : Regs) : State := { s with a := r.a, x := r.x, y := r.y, sp := r.sp, p := r.p }

/-- All that transactions do: `t` is `s` after them, whatever its registers, PC, latch and micro-state are. -/
structure After (s t : State) (bus : List Bus) : Prop where
  counter : t.cycleCounter = s.cycleCounter + bus.length
  trace : t.trace = (bus.map s.txn).reverse ++ s.trace
  mem : (s.mem.wf = true ∨ ∀ b ∈ bus, b.2.1 = Rw.read) → ∀ a, t.mem.read a = s.byteAfter a bus (s.mem.read a)
  quiet : (∀ b ∈ bus, b.2.1 = Rw.read) → t.mem = s.mem
  platform : t.platform = s.platformAfter bus
  wf : s.mem.wf = true → t.mem.wf = true
  jammed : t.jammed = s.jammed
  faultLog : t.faultLog = s.faultLog
  outside : s.SameOutside t

/-! ### The network's frame -/

theorem State.SameOutside.refl (s : State) : s.SameOutside s := ⟨rfl, rfl, rfl, rfl, ⟨rfl, rfl, rfl, rfl, rfl⟩, rfl⟩

theorem State.SameOutside.trans {s t u : State} (h : s.SameOutside t) (k : t.SameOutside u) : s.SameOutside u := by
  obtain ⟨h1, h2, h3, h4, ⟨h5, h6, h7, h8, h9⟩, h10⟩ := h
  obtain ⟨k1, k2, k3, k4, ⟨k5, k6, k7, k8, k9⟩, k10⟩ := k
  exact ⟨k1.trans h1, k2.trans h2, k3.trans h3, k4.trans h4,
    ⟨k5.trans h5, k6.trans h6, k7.trans h7, k8.trans h8, k9.trans h9⟩, by rw [← h10, ← k10]⟩

theorem State.SameOutside.aecLow {s t : State} (h : s.SameOutside t) : t.aecLow = s.aecLow := by
  simp only [State.aecLow, h.controlPins.2.2.2.1]

theorem State.SameOutside.rdyLow {s t : State} (h : s.SameOutside t) : t.rdyLow = s.rdyLow := by
  simp only [State.rdyLow, h.controlPins.2.2.2.2]

theorem State.SameOutside.irqLow {s t : State} (h : s.SameOutside t) : t.irqLow = s.irqLow := by
  simp only [State.irqLow, h.controlPins.2.1]

theorem State.SameOutside.regionAt {s t : State} (h : s.SameOutside t) (w : Word) : t.regionAt w = s.regionAt w := by
  simp only [State.regionAt, h.map]

theorem State.SameOutside.txn {s t : State} (h : s.SameOutside t) : t.txn = s.txn := by
  funext b; simp only [State.txn, h.aecLow]

theorem State.SameOutside.keeps {s t : State} (h : s.SameOutside t) (w : Word) : t.keeps w = s.keeps w := by
  simp only [State.keeps, h.aecLow, h.regionAt]

theorem State.SameOutside.byteAfter {s t : State} (h : s.SameOutside t) (a : Nat) (bus : List Bus) (v : Byte) :
    t.byteAfter a bus v = s.byteAfter a bus v := by
  induction bus generalizing v with
  | nil => rfl
  | cons b rest ih => simp only [State.byteAfter, h.keeps, ih]

theorem State.SameOutside.platformAfter {s t : State} (h : s.SameOutside t) {b : List Bus}
    (k : t.platform = s.platformAfter b) (c : List Bus) : t.platformAfter c = s.platformAfter (b ++ c) := by
  cases e : s.aecLow <;> simp [State.platformAfter, h.aecLow, k, e]

/-! ### The calculus of `After` -/

theorem State.byteAfter_append (s : State) (a : Nat) (b c : List Bus) (v : Byte) :
    s.byteAfter a (b ++ c) v = s.byteAfter a c (s.byteAfter a b v) := by
  induction b generalizing v with
  | nil => rfl
  | cons x rest ih => simp only [List.cons_append, State.byteAfter, ih]

theorem After.refl (s : State) : After s s [] :=
  ⟨rfl, rfl, fun _ _ => rfl, fun _ => rfl, by simp [State.platformAfter], id, rfl, rfl, .refl s⟩

/-- An update that leaves counter, trace, memory, halt state, fault log and network performs no transaction. -/
theorem After.silent {s t : State} (hc : t.cycleCounter = s.cycleCounter) (ht : t.trace = s.trace) (hm : t.mem = s.mem)
    (hp : t.platform = s.platform) (hj : t.jammed = s.jammed) (hf : t.faultLog = s.faultLog) (h1 : t.resetHeld = s.resetHeld)
    (h2 : t.resetPending = s.resetPending) (h3 : t.map = s.map) (h4 : t.params = s.params) (h5 : t.net = s.net) :
    After s t [] :=
  ⟨hc, ht, fun _ a => by rw [hm]; rfl, fun _ => hm, by simp [hp, State.platformAfter], fun w => by rw [hm]; exact w, hj, hf,
    ⟨h1, h2, h3, h4, by simp [h5], by simp [h5]⟩⟩

theorem After.trans {s t u : State} {b c : List Bus} (h : After s t b) (k : After t u c) : After s u (b ++ c) where
  counter := by rw [k.counter, h.counter, List.length_append, Nat.add_assoc]
  trace := by simp [k.trace, h.trace, h.outside.txn]
  mem hyp a := by
    rw [State.byteAfter_append, k.mem, h.mem, h.outside.byteAfter]
    · exact hyp.imp id fun r x hx => r x (by simp [hx])
    · exact hyp.imp h.wf fun r x hx => r x (by simp [hx])
  quiet r := (k.quiet fun x hx => r x (by simp [hx])).trans (h.quiet fun x hx => r x (by simp [hx]))
  platform := by rw [k.platform, h.outside.platformAfter h.platform]
  wf w := k.wf (h.wf w)
  jammed := k.jammed.trans h.jammed
  faultLog := k.faultLog.trans h.faultLog
  outside := h.outside.trans k.outside

/-- A read cycle is one read transaction. -/
theorem After.read (s : State) (addr : Word) (v : Byte) : After s (s.readCycleAs addr v) [rd addr v] where
  counter := rfl
  trace := rfl
  mem _ _ := rfl
  quiet _ := rfl
  platform := by cases e : s.aecLow <;> simp [State.observe, State.platformAfter, rd, e]
  wf := id
  jammed := rfl
  faultLog := rfl
  outside := ⟨rfl, rfl, rfl, rfl, by simp [State.readCycleAs, State.countCycle], rfl⟩

/-- A write cycle is one write transaction. -/
theorem After.write (s : State) (addr : Word) (v : Byte) : After s (s.writeCycle addr v) [wr addr v] where
  counter := rfl
  trace := rfl
  mem h a := by
    rcases h with h | h
    · rw [State.writeCycle_mem, State.read_stored _ _ _ _ h]
      show _ = if Rw.write = Rw.write ∧ addr.toNat = a ∧ s.keeps addr = true then v else s.mem.read a
      simp [State.keeps]
    · exact absurd (h (wr addr v) (by simp)) (by simp [wr])
  quiet h := absurd (h (wr addr v) (by simp)) (by simp [wr])
  platform := by cases e : s.aecLow <;> simp [State.observe, State.platformAfter, wr, e]
  wf h := State.wf_stored s addr v h
  jammed := rfl
  faultLog := rfl
  outside := ⟨rfl, rfl, rfl, rfl, by simp [State.writeCycle, State.countCycle], rfl⟩

theorem After.incPc (s : State) : After s s.incPc [] := .silent rfl rfl rfl rfl rfl rfl rfl rfl rfl rfl rfl

theorem After.setPc (s : State) (w : Word) : After s (s.setPc w) [] := .silent rfl rfl rfl rfl rfl rfl rfl rfl rfl rfl rfl

theorem After.incSp (s : State) : After s s.incSp [] := .silent rfl rfl rfl rfl rfl rfl rfl rfl rfl rfl rfl

theorem After.decSp (s : State) : After s s.decSp [] := .silent rfl rfl rfl rfl rfl rfl rfl rfl rfl rfl rfl

theorem After.setI (s : State) : After s s.setI [] := .silent rfl rfl rfl rfl rfl rfl rfl rfl rfl rfl rfl

theorem After.withRegs (s : State) (r : Regs) : After s (s.withRegs r) [] := .silent rfl rfl rfl rfl rfl rfl rfl rfl rfl rfl rfl

theorem After.latchOpcode (s : State) (op : Byte) : After s (s.latchOpcode op) [] := .silent rfl rfl rfl rfl rfl rfl rfl rfl rfl rfl rfl

theorem After.poll (s : State) : After s s.poll [] := by
  unfold State.poll
  split <;> exact .silent rfl rfl rfl rfl rfl rfl rfl rfl rfl rfl rfl

theorem After.endInstr (s : State) : After s s.endInstr [] := by
  unfold State.endInstr
  split <;> exact .silent rfl rfl rfl rfl rfl rfl rfl rfl rfl rfl rfl

theorem After.endTrap (s : State) : After s s.endTrap [] := by
  unfold State.endTrap
  split <;> exact .silent rfl rfl rfl rfl rfl rfl rfl rfl rfl rfl rfl

theorem After.fetch (s : State) (b : Byte) : After s (s.fetchCycle b) [rd s.pc b] := (After.read s s.pc b).trans (After.incPc _)

theorem After.opcode (s : State) (op : Byte) : After s (s.opcodeCycle op) [rd s.pc op] :=
  (After.read s s.pc op).trans (After.latchOpcode _ op)

theorem After.push (s : State) (v : Byte) : After s (s.pushCycle v) [wr (stackAddr s.sp) v] :=
  (After.write s (stackAddr s.sp) v).trans (After.decSp _)

/-- The byte the next read returns, from a memory in canonical form or after transactions that only read. -/
theorem After.busRead {s t : State} {bus : List Bus} (h : After s t bus)
    (hm : s.mem.wf = true ∨ ∀ b ∈ bus, b.2.1 = Rw.read) (addr : Word) : t.busRead addr = s.seen bus addr := by
  rw [State.busRead, State.seen, h.outside.aecLow, h.outside.regionAt, h.counter, h.platform]
  cases s.regionAt addr <;> simp only [h.mem hm]

/-! ### Completion -/

/-- An instruction that ends in `endInstr` completes with the transactions, registers and PC before it. -/
theorem completes_of_after {i : Instr} {s u : State} {e : Effect} (henc : encode i = e.code)
    (hexec : exec i s = .next u.endInstr) (h : After s u e.bus) (hm : s.mem.wf = true ∨ ∀ b ∈ e.bus, b.2.1 = Rw.read)
    (hr : u.regs = e.regs) (hpc : u.pc = e.pc) (hl : u.lastOpcodeAddr = s.pc) : Completes i s e := by
  have k := h.trans (After.endInstr u)
  rw [List.append_nil] at k
  refine ⟨henc, _, hexec, ?_, ?_, k.counter, k.trace, k.mem hm, k.platform, ?_, ?_, k.jammed, k.faultLog, k.outside⟩
  · rw [← hr]; simp [State.regs]
  · rw [← hpc]; simp
  · rw [← hl]; simp
  · simp

/-- The same for BRK, which ends in `endTrap`. -/
theorem completes_of_after_trap {i : Instr} {s u : State} {e : Effect} (henc : encode i = e.code)
    (hexec : exec i s = .next u.endTrap) (h : After s u e.bus) (hm : s.mem.wf = true ∨ ∀ b ∈ e.bus, b.2.1 = Rw.read)
    (hr : u.regs = e.regs) (hpc : u.pc = e.pc) (hl : u.lastOpcodeAddr = s.pc) : Completes i s e := by
  have k := h.trans (After.endTrap u)
  rw [List.append_nil] at k
  refine ⟨henc, _, hexec, ?_, ?_, k.counter, k.trace, k.mem hm, k.platform, ?_, ?_, k.jammed, k.faultLog, k.outside⟩
  · rw [← hr]; simp [State.regs]
  · rw [← hpc]; simp
  · rw [← hl]; simp
  · simp

/-! ### The cycles before the operand's -/

/-- `t` has performed an access's transactions before the operand's, which only read, and no register has changed. -/
structure AtOperand (s t : State) (m : Access) : Prop where
  after : After s t m.head
  reads : ∀ b ∈ m.head, b.2.1 = Rw.read
  regs : t.regs = s.regs
  pc : t.pc = s.pcAfter m.code
  last : t.lastOpcodeAddr = s.pc

/-- The operand as the state at the operand's cycle reads it. -/
theorem AtOperand.operand {s t : State} {m : Access} (h : AtOperand s t m) : t.busRead m.ea = s.operandAt m :=
  h.after.busRead (.inr h.reads) m.ea

/-- One more read cycle before the operand's. -/
theorem AtOperand.readMore {s t : State} {m : Access} (h : AtOperand s t m) (addr ea : Word) :
    AtOperand s (t.readCycle addr) { code := m.code, head := s.reads m.head [addr], ea := ea } where
  after := h.after.trans (h.after.busRead (.inr h.reads) addr ▸ After.read t addr _)
  reads b hb := by
    rcases List.mem_append.mp hb with hb | hb
    · exact h.reads b hb
    · rw [List.mem_singleton.mp hb]; rfl
  regs := h.regs
  pc := h.pc
  last := h.last

theorem AtOperand.withEa {s t : State} {c : List Byte} {hd : List Bus} {ea : Word} (h : AtOperand s t ⟨c, hd, ea⟩)
    (ea' : Word) : AtOperand s t ⟨c, hd, ea'⟩ := ⟨h.after, h.reads, h.regs, h.pc, h.last⟩

theorem AtOperand.of_eq {s t : State} {m m' : Access} (h : AtOperand s t m) (e : m = m') : AtOperand s t m' := e ▸ h

theorem atOperand_fetch2 (s : State) (op b : Byte) (ea : Word) :
    AtOperand s (s.fetch2 op b) { code := [op, b], head := s.fetches [op, b], ea := ea } where
  after := (After.opcode s op).trans (After.fetch _ b)
  reads x hx := by simp only [State.fetches, List.mem_cons, List.not_mem_nil, or_false] at hx; rcases hx with rfl | rfl <;> rfl
  regs := by simp [State.fetch2, State.regs]
  pc := by simp [State.fetch2, State.pcAfter, BitVec.add_assoc]
  last := by simp [State.fetch2]

theorem atOperand_abs (s : State) (op : Byte) (addr : Word) : AtOperand s (s.fetch3 op addr) (s.viaAbs op addr) where
  after := by
    have h := (atOperand_fetch2 s op (loByte addr) addr).after.trans (After.fetch _ (hiByte addr))
    have e : (s.fetch2 op (loByte addr)).pc = s.pc + 2 := by simp [State.fetch2, BitVec.add_assoc]
    rw [e] at h
    exact h
  reads x hx := by
    simp only [State.viaAbs, State.fetches, code3, List.mem_cons, List.not_mem_nil, or_false] at hx
    rcases hx with h | h | h <;> rw [h, rd]
  regs := by simp [State.fetch3, State.fetch2, State.regs]
  pc := by simp [State.fetch3, State.fetch2, State.viaAbs, State.pcAfter, code3, BitVec.add_assoc]
  last := by simp [State.fetch3, State.fetch2]

theorem atOperand_zp (s : State) (op zp : Byte) : AtOperand s (s.fetch2 op zp) (s.viaZp op zp) := atOperand_fetch2 s op zp _

theorem atOperand_zpIndexed (s : State) (op zp index : Byte) :
    AtOperand s (s.headZpIndexed op zp) (s.viaZpIndexed op zp index) :=
  (atOperand_fetch2 s op zp 0).readMore (zpAddr zp) _

theorem atOperand_absFixed (s : State) (op : Byte) (addr : Word) (index : Byte) :
    AtOperand s (s.headAbsFixed op addr index) (s.viaAbsIndexed op addr index) :=
  (atOperand_abs s op addr).readMore (unfixed addr index) _

theorem atOperand_absRead (s : State) (op : Byte) (addr : Word) (index : Byte) :
    AtOperand s (s.headAbsRead op addr index) (s.viaAbsIndexedRead op addr index) := by
  unfold State.headAbsRead State.viaAbsIndexedRead
  split
  · exact atOperand_absFixed s op addr index
  · exact (atOperand_abs s op addr).withEa (indexed addr index)

theorem atOperand_izxLow (s : State) (op zp : Byte) (ea : Word) :
    AtOperand s ((s.headZpIndexed op zp).readCycle (zpAddr (s.izxPtr zp)))
      { code := [op, zp], head := s.reads (s.viaZpIndexed op zp 0).head [zpAddr (s.izxPtr zp)], ea := ea } :=
  (atOperand_zpIndexed s op zp 0).readMore _ _

theorem atOperand_izx (s : State) (op zp : Byte) : AtOperand s (s.headIzx op zp) (s.viaIzx op zp) :=
  (atOperand_izxLow s op zp 0).readMore (zpAddr (s.izxPtr zp + 1)) _

/-- The effective address of (zp,X) from the pointer's two reads. -/
theorem eaIzx_eq (s : State) (op zp : Byte) : s.eaIzx op zp = (s.viaIzx op zp).ea := by
  have lo := ((atOperand_zpIndexed s op zp 0).withEa (zpAddr (s.izxPtr zp))).operand
  have hi := (atOperand_izxLow s op zp (zpAddr (s.izxPtr zp + 1))).operand
  show mkWord _ _ = mkWord _ _
  rw [hi, lo]; rfl

theorem atOperand_izyLow (s : State) (op zp : Byte) (ea : Word) :
    AtOperand s ((s.fetch2 op zp).readCycle (zpAddr zp)) { code := [op, zp], head := s.izyLow op zp, ea := ea } :=
  (atOperand_fetch2 s op zp 0).readMore _ _

theorem atOperand_izy (s : State) (op zp : Byte) (ea : Word) :
    AtOperand s (s.headIzy op zp) { code := [op, zp], head := s.izyHead op zp, ea := ea } :=
  (atOperand_izyLow s op zp 0).readMore _ _

/-- The base address of (zp),Y from the pointer's two reads. -/
theorem baseIzy_eq (s : State) (op zp : Byte) : s.baseIzy op zp = s.izyBase op zp := by
  have lo := (atOperand_fetch2 s op zp (zpAddr zp)).operand
  have hi := (atOperand_izyLow s op zp (zpAddr (zp + 1))).operand
  show mkWord _ _ = mkWord _ _
  rw [hi, lo]; rfl

theorem atOperand_izyFixed (s : State) (op zp : Byte) : AtOperand s (s.headIzyFixed op zp) (s.viaIzy op zp) := by
  rw [State.headIzyFixed, baseIzy_eq]
  exact (atOperand_izy s op zp 0).readMore _ _

theorem atOperand_izyRead (s : State) (op zp : Byte) : AtOperand s (s.headIzyRead op zp) (s.viaIzyRead op zp) := by
  unfold State.headIzyRead State.viaIzyRead
  rw [baseIzy_eq]
  split
  · exact atOperand_izyFixed s op zp
  · exact atOperand_izy s op zp _

/-! ### The modes whose address is read from memory, by their accesses -/

theorem readIzx_eq (s : State) (op zp : Byte) (effect : Byte → State → State) :
    readIzx op zp effect s = (s.headIzx op zp).readTail (s.viaIzx op zp).ea effect := by rw [readIzx, eaIzx_eq]

theorem readIzy_eq (s : State) (op zp : Byte) (effect : Byte → State → State) :
    readIzy op zp effect s = (s.headIzyRead op zp).readTail (s.viaIzyRead op zp).ea effect := by
  rw [readIzy, State.eaIzy, baseIzy_eq]; rfl

theorem writeIzx_eq (s : State) (op zp : Byte) (value : State → Byte) :
    writeIzx op zp value s = (s.headIzx op zp).writeTail (s.viaIzx op zp).ea value := by rw [writeIzx, eaIzx_eq]

theorem writeIzy_eq (s : State) (op zp : Byte) (value : State → Byte) :
    writeIzy op zp value s = (s.headIzyFixed op zp).writeTail (s.viaIzy op zp).ea value := by
  rw [writeIzy, State.eaIzy, baseIzy_eq]; rfl

theorem modifyIzx_eq (s : State) (op zp : Byte) (result : Byte → State → Byte) (effect : Byte → State → State) :
    modifyIzx op zp result effect s = (s.headIzx op zp).modifyTail (s.viaIzx op zp).ea result effect := by
  rw [modifyIzx, eaIzx_eq]

theorem modifyIzy_eq (s : State) (op zp : Byte) (result : Byte → State → Byte) (effect : Byte → State → State) :
    modifyIzy op zp result effect s = (s.headIzyFixed op zp).modifyTail (s.viaIzy op zp).ea result effect := by
  rw [modifyIzy, State.eaIzy, baseIzy_eq]; rfl

/-! ### The access classes -/

/-- Class R: an instruction whose effect on the registers is `f` of the operand. -/
theorem reads_of_head {i : Instr} {s t : State} {m : Access} {effect : Byte → State → State} {f : Regs → Byte → Regs}
    (h : AtOperand s t m) (henc : encode i = m.code) (hexec : exec i s = .next (t.readTail m.ea effect))
    (he : ∀ v u, effect v u = u.withRegs (f u.regs v)) : Reads i s m f := by
  have hv := h.operand
  have e : effect (t.busRead m.ea) (t.poll.readCycle m.ea) =
      (t.poll.readCycleAs m.ea (s.operandAt m)).withRegs (f s.regs (s.operandAt m)) := by
    have hp : t.poll.busRead m.ea = t.busRead m.ea := by simp [State.busRead]
    rw [he, State.readCycle_eq, hp, hv, ← h.regs]
    congr 2
    simp [State.regs]
  rw [State.readTail, e] at hexec
  refine completes_of_after henc hexec ?_ (.inr ?_) rfl ?_ ?_
  · have a := ((h.after.trans (After.poll t)).trans (After.read _ m.ea (s.operandAt m))).trans
      (After.withRegs _ (f s.regs (s.operandAt m)))
    simpa using a
  · intro b hb
    rcases List.mem_append.mp hb with hb | hb
    · exact h.reads b hb
    · rw [List.mem_singleton.mp hb]; rfl
  · rw [← h.pc]; simp [State.withRegs]
  · rw [← h.last]; simp [State.withRegs]

/-- Class W: an instruction that writes `v`. -/
theorem writes_of_head {i : Instr} {s t : State} {m : Access} {value : State → Byte} {v : Byte} (w : s.mem.wf = true)
    (h : AtOperand s t m) (henc : encode i = m.code) (hexec : exec i s = .next (t.writeTail m.ea value))
    (hv : ∀ u : State, u.regs = s.regs → value u = v) : Writes i s m v := by
  obtain rfl := hv t h.regs
  refine completes_of_after henc hexec ?_ (.inl w) ?_ ?_ ?_
  · simpa using (h.after.trans (After.poll t)).trans (After.write _ m.ea (value t))
  · rw [← h.regs]; simp [State.regs]
  · rw [← h.pc]; simp
  · rw [← h.last]; simp

/-- Class M: an instruction that writes back the operand, then `(f regs operand).1`. -/
theorem modifies_of_head {i : Instr} {s t : State} {m : Access} {result : Byte → State → Byte}
    {effect : Byte → State → State} {f : Regs → Byte → Byte × Regs} (w : s.mem.wf = true) (h : AtOperand s t m)
    (henc : encode i = m.code) (hexec : exec i s = .next (t.modifyTail m.ea result effect))
    (hr : ∀ v u, result v u = (f u.regs v).1) (he : ∀ v u, effect v u = u.withRegs (f u.regs v).2) :
    Modifies i s m f := by
  have hv := h.operand
  have e : t.modifyTail m.ea result effect =
      ((((t.readCycleAs m.ea (s.operandAt m)).writeCycle m.ea (s.operandAt m)).poll.writeCycle m.ea
        (f s.regs (s.operandAt m)).1).withRegs (f s.regs (s.operandAt m)).2).endInstr := by
    unfold State.modifyTail
    simp only [hr, he, State.readCycle_eq, hv, ← h.regs]
    congr 3 <;> simp [State.regs]
  refine completes_of_after henc (e ▸ hexec) ?_ (.inl w) rfl ?_ ?_
  · have a := ((((h.after.trans (After.read t m.ea (s.operandAt m))).trans (After.write _ m.ea (s.operandAt m))).trans
      (After.poll _)).trans (After.write _ m.ea (f s.regs (s.operandAt m)).1)).trans
      (After.withRegs _ (f s.regs (s.operandAt m)).2)
    simpa using a
  · rw [← h.pc]; simp [State.withRegs]
  · rw [← h.last]; simp [State.withRegs]

/-- An immediate instruction. -/
theorem readsImm_of_effect {i : Instr} {s : State} {op imm : Byte} {effect : Byte → State → State}
    {f : Regs → Byte → Regs} (henc : encode i = [op, imm]) (hexec : exec i s = .next (immediate op imm effect s))
    (he : ∀ v u, effect v u = u.withRegs (f u.regs v)) : ReadsImm i s op imm f := by
  have e : effect imm ((s.opcodeCycle op).poll.fetchCycle imm) =
      ((s.opcodeCycle op).poll.fetchCycle imm).withRegs (f s.regs imm) := by
    rw [he]; congr 2; simp [State.regs]
  rw [immediate, e] at hexec
  refine completes_of_after henc hexec ?_ (.inr ?_) rfl ?_ ?_
  · have a := (((After.opcode s op).trans (After.poll _)).trans (After.fetch _ imm)).trans (After.withRegs _ (f s.regs imm))
    simpa [State.fetches] using a
  · intro b hb
    simp only [State.fetches, List.mem_cons, List.not_mem_nil, or_false] at hb
    rcases hb with rfl | rfl <;> rfl
  · simp [State.withRegs, State.pcAfter, BitVec.add_assoc]
  · simp [State.withRegs]

/-- An implied or accumulator instruction. -/
theorem implied_of_effect {i : Instr} {s : State} {op : Byte} {effect : State → State} {f : Regs → Regs}
    (henc : encode i = [op]) (hexec : exec i s = .next (implied op effect s))
    (he : ∀ u, effect u = u.withRegs (f u.regs)) : Implied i s op f := by
  have hv : (s.opcodeCycle op).poll.busRead (s.pc + 1) = s.seen [rd s.pc op] (s.pc + 1) :=
    ((After.opcode s op).trans (After.poll _)).busRead (.inr (by simp [rd])) (s.pc + 1)
  have e : effect (s.opcodeCycle op).poll.dummyPc =
      ((s.opcodeCycle op).poll.readCycleAs (s.pc + 1) (s.seen [rd s.pc op] (s.pc + 1))).withRegs (f s.regs) := by
    rw [he, State.dummyPc_eq]
    have hpc : (s.opcodeCycle op).poll.pc = s.pc + 1 := by simp
    rw [hpc, hv]
    congr 2
    simp [State.regs]
  rw [implied, e] at hexec
  refine completes_of_after henc hexec ?_ (.inr ?_) rfl ?_ ?_
  · have a := (((After.opcode s op).trans (After.poll _)).trans (After.read _ (s.pc + 1) (s.seen [rd s.pc op] (s.pc + 1)))).trans
      (After.withRegs _ (f s.regs))
    simpa [State.reads] using a
  · intro b hb
    simp only [State.reads, List.cons_append, List.nil_append, List.mem_cons, List.not_mem_nil, or_false] at hb
    rcases hb with rfl | rfl <;> rfl
  · simp [State.withRegs, State.pcAfter]
  · simp [State.withRegs]

end Sys2Proof.Machine
end

