-- ==== Sys2Proof/Laws/Network.lean ====
section
/-! SUPPORT. What storing a level in a pin changes: that pin's level and nothing else; the first facts about nets; and what the
steps of a call answer. -/

namespace Sys2Proof.Machine

@[simp] theorem Level.ofBool_toBool (l : Level) : Level.ofBool l.toBool = l := by cases l <;> rfl

@[simp] theorem Level.toBool_ofBool (b : Bool) : (Level.ofBool b).toBool = b := by cases b <;> rfl

/-- The bits of a value with one bit replaced. -/
theorem getLsbD_putBit {w : Nat} (v : BitVec w) (i j : Nat) (b : Bool) (hj : j < w) :
    (putBit v i b).getLsbD j = if i = j then b else v.getLsbD j := by
  unfold putBit
  cases b <;> by_cases h : i = j
  · subst h; simp [hj]
  · simp [hj, h]
    intro; omega
  · subst h; simp [hj]
  · simp [hj, h]
    omega

@[simp] theorem Net.links_putLevel (n : Net) (p : PinId) (v : Level) : (n.putLevel p v).links = n.links := by
  cases p <;> rfl

@[simp] theorem Net.notes_putLevel (n : Net) (p : PinId) (v : Level) : (n.putLevel p v).notes = n.notes := by
  cases p <;> rfl

@[simp] theorem Net.buses_putLevel (n : Net) (p : PinId) (v : Level) : (n.putLevel p v).buses = n.buses := by
  cases p <;> rfl

@[simp] theorem Net.choices_putLevel (n : Net) (p : PinId) (v : Level) : (n.putLevel p v).choices = n.choices := by
  cases p <;> rfl

@[simp] theorem Net.unsettled_putLevel (n : Net) (p : PinId) (v : Level) : (n.putLevel p v).unsettled = n.unsettled := by
  cases p <;> rfl

@[simp] theorem Net.memoryPins_putLevel (n : Net) (p : PinId) (v : Level) :
    (n.putLevel p v).memoryPins = n.memoryPins := by
  cases p <;> rfl

@[simp] theorem Net.busPins_putLevel (n : Net) (p : PinId) (v : Level) (b : BusId) :
    (n.putLevel p v).busPins b = n.busPins b := by
  cases p <;> cases b <;> rfl

@[simp] theorem Net.busSink_putLevel (n : Net) (p : PinId) (v : Level) (b : BusId) :
    (n.putLevel p v).busSink b = n.busSink b := by
  cases p <;> cases b <;> rfl

@[simp] theorem Net.sinkOf_putLevel (n : Net) (p q : PinId) (v : Level) : (n.putLevel p v).sinkOf q = n.sinkOf q := by
  cases p <;> cases q <;> try rfl
  rename_i k j
  simp only [Net.putLevel, Net.modifyPin, Net.sinkOf, List.getElem?_modify]
  cases n.pins[j]? <;> simp
  split <;> rfl

@[simp] theorem Net.directionOf_putLevel (n : Net) (p q : PinId) (v : Level) :
    (n.putLevel p v).directionOf q = n.directionOf q := by
  cases p <;> cases q <;> try rfl
  rename_i k j
  simp only [Net.putLevel, Net.modifyPin, Net.directionOf, List.getElem?_modify]
  cases n.pins[j]? <;> simp
  split <;> rfl

@[simp] theorem Net.ownerOf_putLevel (n : Net) (p q : PinId) (v : Level) : (n.putLevel p v).ownerOf q = n.ownerOf q := by
  cases p <;> cases q <;> try rfl
  rename_i k j
  simp only [Net.putLevel, Net.modifyPin, Net.ownerOf, List.getElem?_modify]
  cases n.pins[j]? <;> simp
  split <;> rfl

/-- The level read back from the pin it was stored in, and from every other pin. -/
theorem Net.levelOf_putLevel (n : Net) (p q : PinId) (v : Level) (h : n.directionOf p ≠ none) :
    (n.putLevel p v).levelOf q = if q = p then v else n.levelOf q := by
  cases p with
  | ext k =>
    cases q with
    | ext j =>
      simp only [Net.directionOf, Option.map_eq_none_iff, ne_eq, List.getElem?_eq_none_iff, not_le] at h
      simp only [Net.putLevel, Net.modifyPin, Net.levelOf, List.getElem?_modify, PinId.ext.injEq]
      by_cases e : j = k
      · subst e; simp [h]
      · simp [e, Ne.symm e]
    | _ => simp [Net.putLevel, Net.modifyPin, Net.levelOf]
  | addr i =>
    cases q with
    | addr j =>
      have hb := getLsbD_putBit n.cpu.addr i j v.toBool j.isLt
      simp only [Net.putLevel, Net.levelOf, hb, PinId.addr.injEq, Fin.ext_iff, eq_comm (a := (j : Nat))]
      split <;> simp
    | _ => simp [Net.putLevel, Net.levelOf]
  | data i =>
    cases q with
    | data j =>
      have hb := getLsbD_putBit n.cpu.data i j v.toBool j.isLt
      simp only [Net.putLevel, Net.levelOf, hb, PinId.data.injEq, Fin.ext_iff, eq_comm (a := (j : Nat))]
      split <;> simp
    | _ => simp [Net.putLevel, Net.levelOf]
  | _ => cases q <;> simp [Net.putLevel, Net.levelOf]

/-! ### Directions (R201) -/

@[simp] theorem Net.links_putDirection (n : Net) (p : PinId) (d : Direction) : (n.putDirection p d).links = n.links := by
  cases p <;> rfl

/-- Setting a direction changes no level. -/
@[simp] theorem Net.levelOf_putDirection (n : Net) (p q : PinId) (d : Direction) :
    (n.putDirection p d).levelOf q = n.levelOf q := by
  cases p <;> cases q <;> try rfl
  rename_i k j
  simp only [Net.putDirection, Net.modifyPin, Net.levelOf, List.getElem?_modify]
  cases n.pins[j]? <;> simp
  split <;> rfl

/-- The direction read back from the pin it was set on, and from every other pin. -/
theorem Net.directionOf_putDirection (n : Net) (p q : PinId) (d : Direction) (h : n.directionOf p ≠ none)
    (ha : p.allows d = true) :
    (n.putDirection p d).directionOf q = if q = p then some d else n.directionOf q := by
  cases p with
  | ext k =>
    cases q with
    | ext j =>
      simp only [Net.directionOf, Option.map_eq_none_iff, ne_eq, List.getElem?_eq_none_iff, not_le] at h
      simp only [Net.putDirection, Net.modifyPin, Net.directionOf, List.getElem?_modify, PinId.ext.injEq]
      by_cases e : j = k
      · subst e; simp [h]
      · simp [e, Ne.symm e]
    | _ => simp [Net.putDirection, Net.modifyPin, Net.directionOf]
  | addr i => cases q <;> simp [Net.putDirection, Net.directionOf, Vector.getElem_set, Fin.ext_iff, eq_comm]; split <;> rfl
  | data i => cases q <;> simp [Net.putDirection, Net.directionOf, Vector.getElem_set, Fin.ext_iff, eq_comm]; split <;> rfl
  | rw => cases q <;> simp [Net.putDirection, Net.directionOf]
  | _ =>
    obtain rfl : d = .input := by simpa [PinId.allows] using ha
    cases q <;> simp [Net.putDirection, Net.directionOf]

/-! ### Nets (R215) -/

/-- A pass of the links keeps every pin found. -/
theorem mem_growNet (links : List Link) (seen : List PinId) (p : PinId) (h : p ∈ seen) : p ∈ growNet links seen := by
  induction links generalizing seen with
  | nil => exact h
  | cons l rest ih =>
    unfold growNet
    split
    · exact ih _ (List.mem_append_left _ h)
    · split
      · exact ih _ (List.mem_append_left _ h)
      · exact ih _ h

/-- So do several. -/
theorem mem_growNetTimes (links : List Link) (k : Nat) (seen : List PinId) (p : PinId) (h : p ∈ seen) :
    p ∈ growNetTimes links k seen := by
  induction k generalizing seen with
  | zero => exact h
  | succ k ih => exact ih _ (mem_growNet links seen p h)

/-- Every pin is in its own net. -/
theorem mem_netOf_self (links : List Link) (p : PinId) : p ∈ netOf links p := mem_growNetTimes links _ _ p (by simp)

/-- A pin with no link is its own net. -/
theorem netOf_nil (p : PinId) : netOf [] p = [p] := rfl

/-! ### The steps of a call -/

/-- A component may set a pin it owns. -/
theorem run_checkOwner {who : Owner} {p : PinId} {s : State} (h : s.net.ownerOf p = some who) :
    (checkOwner who p).run s = .ok () s := by
  simp [checkOwner, EStateM.run, bind, EStateM.bind, get, getThe, MonadStateOf.get, EStateM.get, h, pure, EStateM.pure]

/-- It may set no other (R208). -/
theorem run_checkOwner_foreign {who o : Owner} {p : PinId} {s : State} (h : s.net.ownerOf p = some o) (hn : o ≠ who) :
    (checkOwner who p).run s = .error (.refusal (.foreignPin p)) s := by
  simp [checkOwner, EStateM.run, bind, EStateM.bind, get, getThe, MonadStateOf.get, EStateM.get, h, hn, refuse, throw, throwThe,
    MonadExceptOf.throw, EStateM.throw]

/-- A raise records the fault and stops the call (R700, R701). -/
theorem run_raiseFault {α : Type} {kind : FaultKind} {f : Fault} {s : State}
    (h : FaultRec.toFault { kind := kind, cycle := s.cycleCounter } = some f) :
    (raiseFault kind : NetM α).run s =
      .error (.fault f) { s with faultLog := s.faultLog ++ [{ kind := kind, cycle := s.cycleCounter }] } := by
  simp [raiseFault, EStateM.run, bind, EStateM.bind, get, getThe, MonadStateOf.get, EStateM.get, set, MonadStateOf.set,
    EStateM.set, h, throw, throwThe, MonadExceptOf.throw, EStateM.throw]

/-- Setting an INPUT pin faults (R202). -/
theorem run_changeLevel_input {p : PinId} {v : Level} {update : NetM Unit} {s : State}
    (h : s.net.directionOf p = some .input) : (changeLevel p v update).run s =
      (raiseFault (.invalidDirectionPin p) : NetM Bool).run s := by
  simp [changeLevel, EStateM.run, bind, EStateM.bind, get, getThe, MonadStateOf.get, EStateM.get, h]

/-- Setting a HI_Z pin does nothing (R202). -/
theorem run_changeLevel_hiZ {p : PinId} {v : Level} {update : NetM Unit} {s : State}
    (h : s.net.directionOf p = some .hiZ) : (changeLevel p v update).run s = .ok false s := by
  simp [changeLevel, EStateM.run, bind, EStateM.bind, get, getThe, MonadStateOf.get, EStateM.get, h, pure, EStateM.pure]

/-- So does setting the level a pin holds (R202, R207). -/
theorem run_changeLevel_same {p : PinId} {v : Level} {update : NetM Unit} {s : State}
    (h : s.net.directionOf p = some .output) (hv : s.net.levelOf p = v) : (changeLevel p v update).run s = .ok false s := by
  simp [changeLevel, EStateM.run, bind, EStateM.bind, get, getThe, MonadStateOf.get, EStateM.get, h, hv, pure, EStateM.pure]

/-- Setting another level of an OUTPUT pin stores it and updates the wire (R202). -/
theorem run_changeLevel_output {p : PinId} {v : Level} {update : NetM Unit} {s : State}
    (h : s.net.directionOf p = some .output) (hv : s.net.levelOf p ≠ v) : (changeLevel p v update).run s =
      (update >>= fun _ => pure true : NetM Bool).run (s.mapNet (fun n => n.putLevel p v)) := by
  simp [changeLevel, EStateM.run, bind, EStateM.bind, get, getThe, MonadStateOf.get, EStateM.get, h, hv, set, MonadStateOf.set,
    EStateM.set]

/-- An outermost call on a settled network nests up to the bound. -/
theorem run_withWiring {α : Type} {order : Nat → Nat} {f : Wiring → NetM α} {s : State} (h : s.net.unsettled = false) :
    (withWiring order f).run s = (f (wiring pinStepWith order s.params.maxDepth s.params.maxDepth)).run s := by
  simp [withWiring, EStateM.run, bind, EStateM.bind, get, getThe, MonadStateOf.get, EStateM.get, h]

/-- After an overflow no call propagates (R214). -/
theorem run_withWiring_unsettled {α : Type} {order : Nat → Nat} {f : Wiring → NetM α} {s : State}
    (h : s.net.unsettled = true) : (withWiring order f).run s = .error (.refusal .unsettled) s := by
  simp [withWiring, EStateM.run, bind, EStateM.bind, get, getThe, MonadStateOf.get, EStateM.get, h, refuse, throw, throwThe,
    MonadExceptOf.throw, EStateM.throw]

/-! ### Overflow (R214) -/

/-- Pins have different numbers. -/
theorem PinId.number_injective : Function.Injective PinId.number := by
  intro p q h
  cases p <;> cases q <;> simp only [PinId.number] at h <;> first | omega | rfl | (congr 1; omega)

/-- `involving` passes on what a call answers. -/
theorem run_involving_ok {α : Type} {ps : List PinId} {call : NetM α} {a : α} {s t : State} (h : call.run s = .ok a t) :
    (involving ps call).run s = .ok a t := by
  simp only [EStateM.run] at h
  simp [involving, EStateM.run, tryCatch, tryCatchThe, MonadExceptOf.tryCatch, EStateM.tryCatch, h]

/-- An overflow that passes a call leaves the nets of its sources open (R214). -/
theorem run_involving_overflow {α : Type} {ps : List PinId} {call : NetM α} {r : FaultRec} {s t : State}
    (h : call.run s = .error (.fault (.propagationOverflow r)) t) :
    (involving ps call).run s = .error (.fault (.propagationOverflow r))
      (t.mapNet (fun n => ps.foldl (fun m p => m.unsettle p t.faultLog.length) n)) := by
  simp only [EStateM.run] at h
  simp [involving, EStateM.run, tryCatch, tryCatchThe, MonadExceptOf.tryCatch, EStateM.tryCatch, h]
  rfl

/-- Any other fault or refusal leaves them alone. -/
theorem run_involving_error {α : Type} {ps : List PinId} {call : NetM α} {e : Stop} {s t : State}
    (h : call.run s = .error e t) (he : ∀ r, e ≠ .fault (.propagationOverflow r)) :
    (involving ps call).run s = .error e t := by
  simp only [EStateM.run] at h
  simp only [involving, EStateM.run, tryCatch, tryCatchThe, MonadExceptOf.tryCatch, EStateM.tryCatch, h]
  rfl

/-- The overflow itself: a fault, and one record in the log (R214, R701). -/
theorem run_overflow {p : PinId} {s : State} :
    let r : FaultRec := { kind := .propagationOverflow p (s.params.maxDepth + 1), cycle := s.cycleCounter }
    (overflow p).run s = .error (.fault (.propagationOverflow r)) { s with faultLog := s.faultLog ++ [r] } := by
  simp [overflow, raiseFault, EStateM.run, bind, EStateM.bind, get, getThe, MonadStateOf.get, EStateM.get, set, MonadStateOf.set,
    EStateM.set, FaultRec.toFault, throw, throwThe, MonadExceptOf.throw, EStateM.throw]

end Sys2Proof.Machine
end

