-- ==== Sys2Proof/Laws/PerInstr.lean ====
section
/-! SUPPORT. The family `Encoding`: for each instruction, its first byte's entry of the opcode map (R154) makes that very
instruction from its other bytes, and there are as many of these as the entry's format has (R151). -/

namespace Sys2Proof.Laws

/-- The bytes of an instruction agree with the opcode map's entry for the first of them. -/
def Encoding.Statement (i : Instr) : Prop :=
  ∃ (opcode : Byte) (operands : List Byte), encode i = opcode :: operands ∧
    match entryOf opcode with
    | some (.f1 j) => operands = [] ∧ j = i
    | some (.f2 make) => ∃ b : Byte, operands = [b] ∧ make b = i
    | some (.f3 make) => ∃ a : Word, operands = addrBytes a ∧ make a = i
    | none => False

theorem Encoding.brk (signature : Byte) : Encoding.Statement (.brk signature) := ⟨_, _, rfl, signature, rfl, rfl⟩

theorem Encoding.oraIzx (zp8 : Byte) : Encoding.Statement (.oraIzx zp8) := ⟨_, _, rfl, zp8, rfl, rfl⟩

theorem Encoding.sloIzx (zp8 : Byte) : Encoding.Statement (.sloIzx zp8) := ⟨_, _, rfl, zp8, rfl, rfl⟩

theorem Encoding.nopZp04 (zp8 : Byte) : Encoding.Statement (.nopZp04 zp8) := ⟨_, _, rfl, zp8, rfl, rfl⟩

theorem Encoding.oraZp (zp8 : Byte) : Encoding.Statement (.oraZp zp8) := ⟨_, _, rfl, zp8, rfl, rfl⟩

theorem Encoding.aslZp (zp8 : Byte) : Encoding.Statement (.aslZp zp8) := ⟨_, _, rfl, zp8, rfl, rfl⟩

theorem Encoding.sloZp (zp8 : Byte) : Encoding.Statement (.sloZp zp8) := ⟨_, _, rfl, zp8, rfl, rfl⟩

theorem Encoding.oraImm (imm8 : Byte) : Encoding.Statement (.oraImm imm8) := ⟨_, _, rfl, imm8, rfl, rfl⟩

theorem Encoding.ancImm0B (imm8 : Byte) : Encoding.Statement (.ancImm0B imm8) := ⟨_, _, rfl, imm8, rfl, rfl⟩

theorem Encoding.nopAbs (addr16 : Word) : Encoding.Statement (.nopAbs addr16) := ⟨_, _, rfl, addr16, rfl, rfl⟩

theorem Encoding.oraAbs (addr16 : Word) : Encoding.Statement (.oraAbs addr16) := ⟨_, _, rfl, addr16, rfl, rfl⟩

theorem Encoding.aslAbs (addr16 : Word) : Encoding.Statement (.aslAbs addr16) := ⟨_, _, rfl, addr16, rfl, rfl⟩

theorem Encoding.sloAbs (addr16 : Word) : Encoding.Statement (.sloAbs addr16) := ⟨_, _, rfl, addr16, rfl, rfl⟩

theorem Encoding.bpl (rel8 : Byte) : Encoding.Statement (.bpl rel8) := ⟨_, _, rfl, rel8, rfl, rfl⟩

theorem Encoding.oraIzy (zp8 : Byte) : Encoding.Statement (.oraIzy zp8) := ⟨_, _, rfl, zp8, rfl, rfl⟩

theorem Encoding.sloIzy (zp8 : Byte) : Encoding.Statement (.sloIzy zp8) := ⟨_, _, rfl, zp8, rfl, rfl⟩

theorem Encoding.nopZpx14 (zp8 : Byte) : Encoding.Statement (.nopZpx14 zp8) := ⟨_, _, rfl, zp8, rfl, rfl⟩

theorem Encoding.oraZpx (zp8 : Byte) : Encoding.Statement (.oraZpx zp8) := ⟨_, _, rfl, zp8, rfl, rfl⟩

theorem Encoding.aslZpx (zp8 : Byte) : Encoding.Statement (.aslZpx zp8) := ⟨_, _, rfl, zp8, rfl, rfl⟩

theorem Encoding.sloZpx (zp8 : Byte) : Encoding.Statement (.sloZpx zp8) := ⟨_, _, rfl, zp8, rfl, rfl⟩

theorem Encoding.oraAby (addr16 : Word) : Encoding.Statement (.oraAby addr16) := ⟨_, _, rfl, addr16, rfl, rfl⟩

theorem Encoding.sloAby (addr16 : Word) : Encoding.Statement (.sloAby addr16) := ⟨_, _, rfl, addr16, rfl, rfl⟩

theorem Encoding.nopAbx1C (addr16 : Word) : Encoding.Statement (.nopAbx1C addr16) := ⟨_, _, rfl, addr16, rfl, rfl⟩

theorem Encoding.oraAbx (addr16 : Word) : Encoding.Statement (.oraAbx addr16) := ⟨_, _, rfl, addr16, rfl, rfl⟩

theorem Encoding.aslAbx (addr16 : Word) : Encoding.Statement (.aslAbx addr16) := ⟨_, _, rfl, addr16, rfl, rfl⟩

theorem Encoding.sloAbx (addr16 : Word) : Encoding.Statement (.sloAbx addr16) := ⟨_, _, rfl, addr16, rfl, rfl⟩

theorem Encoding.jsrAbs (addr16 : Word) : Encoding.Statement (.jsrAbs addr16) := ⟨_, _, rfl, addr16, rfl, rfl⟩

theorem Encoding.andIzx (zp8 : Byte) : Encoding.Statement (.andIzx zp8) := ⟨_, _, rfl, zp8, rfl, rfl⟩

theorem Encoding.rlaIzx (zp8 : Byte) : Encoding.Statement (.rlaIzx zp8) := ⟨_, _, rfl, zp8, rfl, rfl⟩

theorem Encoding.bitZp (zp8 : Byte) : Encoding.Statement (.bitZp zp8) := ⟨_, _, rfl, zp8, rfl, rfl⟩

theorem Encoding.andZp (zp8 : Byte) : Encoding.Statement (.andZp zp8) := ⟨_, _, rfl, zp8, rfl, rfl⟩

theorem Encoding.rolZp (zp8 : Byte) : Encoding.Statement (.rolZp zp8) := ⟨_, _, rfl, zp8, rfl, rfl⟩

theorem Encoding.rlaZp (zp8 : Byte) : Encoding.Statement (.rlaZp zp8) := ⟨_, _, rfl, zp8, rfl, rfl⟩

theorem Encoding.andImm (imm8 : Byte) : Encoding.Statement (.andImm imm8) := ⟨_, _, rfl, imm8, rfl, rfl⟩

theorem Encoding.ancImm2B (imm8 : Byte) : Encoding.Statement (.ancImm2B imm8) := ⟨_, _, rfl, imm8, rfl, rfl⟩

theorem Encoding.bitAbs (addr16 : Word) : Encoding.Statement (.bitAbs addr16) := ⟨_, _, rfl, addr16, rfl, rfl⟩

theorem Encoding.andAbs (addr16 : Word) : Encoding.Statement (.andAbs addr16) := ⟨_, _, rfl, addr16, rfl, rfl⟩

theorem Encoding.rolAbs (addr16 : Word) : Encoding.Statement (.rolAbs addr16) := ⟨_, _, rfl, addr16, rfl, rfl⟩

theorem Encoding.rlaAbs (addr16 : Word) : Encoding.Statement (.rlaAbs addr16) := ⟨_, _, rfl, addr16, rfl, rfl⟩

theorem Encoding.bmi (rel8 : Byte) : Encoding.Statement (.bmi rel8) := ⟨_, _, rfl, rel8, rfl, rfl⟩

theorem Encoding.andIzy (zp8 : Byte) : Encoding.Statement (.andIzy zp8) := ⟨_, _, rfl, zp8, rfl, rfl⟩

theorem Encoding.rlaIzy (zp8 : Byte) : Encoding.Statement (.rlaIzy zp8) := ⟨_, _, rfl, zp8, rfl, rfl⟩

theorem Encoding.nopZpx34 (zp8 : Byte) : Encoding.Statement (.nopZpx34 zp8) := ⟨_, _, rfl, zp8, rfl, rfl⟩

theorem Encoding.andZpx (zp8 : Byte) : Encoding.Statement (.andZpx zp8) := ⟨_, _, rfl, zp8, rfl, rfl⟩

theorem Encoding.rolZpx (zp8 : Byte) : Encoding.Statement (.rolZpx zp8) := ⟨_, _, rfl, zp8, rfl, rfl⟩

theorem Encoding.rlaZpx (zp8 : Byte) : Encoding.Statement (.rlaZpx zp8) := ⟨_, _, rfl, zp8, rfl, rfl⟩

theorem Encoding.andAby (addr16 : Word) : Encoding.Statement (.andAby addr16) := ⟨_, _, rfl, addr16, rfl, rfl⟩

theorem Encoding.rlaAby (addr16 : Word) : Encoding.Statement (.rlaAby addr16) := ⟨_, _, rfl, addr16, rfl, rfl⟩

theorem Encoding.nopAbx3C (addr16 : Word) : Encoding.Statement (.nopAbx3C addr16) := ⟨_, _, rfl, addr16, rfl, rfl⟩

theorem Encoding.andAbx (addr16 : Word) : Encoding.Statement (.andAbx addr16) := ⟨_, _, rfl, addr16, rfl, rfl⟩

theorem Encoding.rolAbx (addr16 : Word) : Encoding.Statement (.rolAbx addr16) := ⟨_, _, rfl, addr16, rfl, rfl⟩

theorem Encoding.rlaAbx (addr16 : Word) : Encoding.Statement (.rlaAbx addr16) := ⟨_, _, rfl, addr16, rfl, rfl⟩

theorem Encoding.eorIzx (zp8 : Byte) : Encoding.Statement (.eorIzx zp8) := ⟨_, _, rfl, zp8, rfl, rfl⟩

theorem Encoding.sreIzx (zp8 : Byte) : Encoding.Statement (.sreIzx zp8) := ⟨_, _, rfl, zp8, rfl, rfl⟩

theorem Encoding.nopZp44 (zp8 : Byte) : Encoding.Statement (.nopZp44 zp8) := ⟨_, _, rfl, zp8, rfl, rfl⟩

theorem Encoding.eorZp (zp8 : Byte) : Encoding.Statement (.eorZp zp8) := ⟨_, _, rfl, zp8, rfl, rfl⟩

theorem Encoding.lsrZp (zp8 : Byte) : Encoding.Statement (.lsrZp zp8) := ⟨_, _, rfl, zp8, rfl, rfl⟩

theorem Encoding.sreZp (zp8 : Byte) : Encoding.Statement (.sreZp zp8) := ⟨_, _, rfl, zp8, rfl, rfl⟩

theorem Encoding.eorImm (imm8 : Byte) : Encoding.Statement (.eorImm imm8) := ⟨_, _, rfl, imm8, rfl, rfl⟩

theorem Encoding.alrImm (imm8 : Byte) : Encoding.Statement (.alrImm imm8) := ⟨_, _, rfl, imm8, rfl, rfl⟩

theorem Encoding.jmpAbs (addr16 : Word) : Encoding.Statement (.jmpAbs addr16) := ⟨_, _, rfl, addr16, rfl, rfl⟩

theorem Encoding.eorAbs (addr16 : Word) : Encoding.Statement (.eorAbs addr16) := ⟨_, _, rfl, addr16, rfl, rfl⟩

theorem Encoding.lsrAbs (addr16 : Word) : Encoding.Statement (.lsrAbs addr16) := ⟨_, _, rfl, addr16, rfl, rfl⟩

theorem Encoding.sreAbs (addr16 : Word) : Encoding.Statement (.sreAbs addr16) := ⟨_, _, rfl, addr16, rfl, rfl⟩

theorem Encoding.bvc (rel8 : Byte) : Encoding.Statement (.bvc rel8) := ⟨_, _, rfl, rel8, rfl, rfl⟩

theorem Encoding.eorIzy (zp8 : Byte) : Encoding.Statement (.eorIzy zp8) := ⟨_, _, rfl, zp8, rfl, rfl⟩

theorem Encoding.sreIzy (zp8 : Byte) : Encoding.Statement (.sreIzy zp8) := ⟨_, _, rfl, zp8, rfl, rfl⟩

theorem Encoding.nopZpx54 (zp8 : Byte) : Encoding.Statement (.nopZpx54 zp8) := ⟨_, _, rfl, zp8, rfl, rfl⟩

theorem Encoding.eorZpx (zp8 : Byte) : Encoding.Statement (.eorZpx zp8) := ⟨_, _, rfl, zp8, rfl, rfl⟩

theorem Encoding.lsrZpx (zp8 : Byte) : Encoding.Statement (.lsrZpx zp8) := ⟨_, _, rfl, zp8, rfl, rfl⟩

theorem Encoding.sreZpx (zp8 : Byte) : Encoding.Statement (.sreZpx zp8) := ⟨_, _, rfl, zp8, rfl, rfl⟩

theorem Encoding.eorAby (addr16 : Word) : Encoding.Statement (.eorAby addr16) := ⟨_, _, rfl, addr16, rfl, rfl⟩

theorem Encoding.sreAby (addr16 : Word) : Encoding.Statement (.sreAby addr16) := ⟨_, _, rfl, addr16, rfl, rfl⟩

theorem Encoding.nopAbx5C (addr16 : Word) : Encoding.Statement (.nopAbx5C addr16) := ⟨_, _, rfl, addr16, rfl, rfl⟩

theorem Encoding.eorAbx (addr16 : Word) : Encoding.Statement (.eorAbx addr16) := ⟨_, _, rfl, addr16, rfl, rfl⟩

theorem Encoding.lsrAbx (addr16 : Word) : Encoding.Statement (.lsrAbx addr16) := ⟨_, _, rfl, addr16, rfl, rfl⟩

theorem Encoding.sreAbx (addr16 : Word) : Encoding.Statement (.sreAbx addr16) := ⟨_, _, rfl, addr16, rfl, rfl⟩

theorem Encoding.adcIzx (zp8 : Byte) : Encoding.Statement (.adcIzx zp8) := ⟨_, _, rfl, zp8, rfl, rfl⟩

theorem Encoding.rraIzx (zp8 : Byte) : Encoding.Statement (.rraIzx zp8) := ⟨_, _, rfl, zp8, rfl, rfl⟩

theorem Encoding.nopZp64 (zp8 : Byte) : Encoding.Statement (.nopZp64 zp8) := ⟨_, _, rfl, zp8, rfl, rfl⟩

theorem Encoding.adcZp (zp8 : Byte) : Encoding.Statement (.adcZp zp8) := ⟨_, _, rfl, zp8, rfl, rfl⟩

theorem Encoding.rorZp (zp8 : Byte) : Encoding.Statement (.rorZp zp8) := ⟨_, _, rfl, zp8, rfl, rfl⟩

theorem Encoding.rraZp (zp8 : Byte) : Encoding.Statement (.rraZp zp8) := ⟨_, _, rfl, zp8, rfl, rfl⟩

theorem Encoding.adcImm (imm8 : Byte) : Encoding.Statement (.adcImm imm8) := ⟨_, _, rfl, imm8, rfl, rfl⟩

theorem Encoding.arrImm (imm8 : Byte) : Encoding.Statement (.arrImm imm8) := ⟨_, _, rfl, imm8, rfl, rfl⟩

theorem Encoding.jmpInd (addr16 : Word) : Encoding.Statement (.jmpInd addr16) := ⟨_, _, rfl, addr16, rfl, rfl⟩

theorem Encoding.adcAbs (addr16 : Word) : Encoding.Statement (.adcAbs addr16) := ⟨_, _, rfl, addr16, rfl, rfl⟩

theorem Encoding.rorAbs (addr16 : Word) : Encoding.Statement (.rorAbs addr16) := ⟨_, _, rfl, addr16, rfl, rfl⟩

theorem Encoding.rraAbs (addr16 : Word) : Encoding.Statement (.rraAbs addr16) := ⟨_, _, rfl, addr16, rfl, rfl⟩

theorem Encoding.bvs (rel8 : Byte) : Encoding.Statement (.bvs rel8) := ⟨_, _, rfl, rel8, rfl, rfl⟩

theorem Encoding.adcIzy (zp8 : Byte) : Encoding.Statement (.adcIzy zp8) := ⟨_, _, rfl, zp8, rfl, rfl⟩

theorem Encoding.rraIzy (zp8 : Byte) : Encoding.Statement (.rraIzy zp8) := ⟨_, _, rfl, zp8, rfl, rfl⟩

theorem Encoding.nopZpx74 (zp8 : Byte) : Encoding.Statement (.nopZpx74 zp8) := ⟨_, _, rfl, zp8, rfl, rfl⟩

theorem Encoding.adcZpx (zp8 : Byte) : Encoding.Statement (.adcZpx zp8) := ⟨_, _, rfl, zp8, rfl, rfl⟩

theorem Encoding.rorZpx (zp8 : Byte) : Encoding.Statement (.rorZpx zp8) := ⟨_, _, rfl, zp8, rfl, rfl⟩

theorem Encoding.rraZpx (zp8 : Byte) : Encoding.Statement (.rraZpx zp8) := ⟨_, _, rfl, zp8, rfl, rfl⟩

theorem Encoding.adcAby (addr16 : Word) : Encoding.Statement (.adcAby addr16) := ⟨_, _, rfl, addr16, rfl, rfl⟩

theorem Encoding.rraAby (addr16 : Word) : Encoding.Statement (.rraAby addr16) := ⟨_, _, rfl, addr16, rfl, rfl⟩

theorem Encoding.nopAbx7C (addr16 : Word) : Encoding.Statement (.nopAbx7C addr16) := ⟨_, _, rfl, addr16, rfl, rfl⟩

theorem Encoding.adcAbx (addr16 : Word) : Encoding.Statement (.adcAbx addr16) := ⟨_, _, rfl, addr16, rfl, rfl⟩

theorem Encoding.rorAbx (addr16 : Word) : Encoding.Statement (.rorAbx addr16) := ⟨_, _, rfl, addr16, rfl, rfl⟩

theorem Encoding.rraAbx (addr16 : Word) : Encoding.Statement (.rraAbx addr16) := ⟨_, _, rfl, addr16, rfl, rfl⟩

theorem Encoding.nopImm80 (imm8 : Byte) : Encoding.Statement (.nopImm80 imm8) := ⟨_, _, rfl, imm8, rfl, rfl⟩

theorem Encoding.staIzx (zp8 : Byte) : Encoding.Statement (.staIzx zp8) := ⟨_, _, rfl, zp8, rfl, rfl⟩

theorem Encoding.nopImm82 (imm8 : Byte) : Encoding.Statement (.nopImm82 imm8) := ⟨_, _, rfl, imm8, rfl, rfl⟩

theorem Encoding.saxIzx (zp8 : Byte) : Encoding.Statement (.saxIzx zp8) := ⟨_, _, rfl, zp8, rfl, rfl⟩

theorem Encoding.styZp (zp8 : Byte) : Encoding.Statement (.styZp zp8) := ⟨_, _, rfl, zp8, rfl, rfl⟩

theorem Encoding.staZp (zp8 : Byte) : Encoding.Statement (.staZp zp8) := ⟨_, _, rfl, zp8, rfl, rfl⟩

theorem Encoding.stxZp (zp8 : Byte) : Encoding.Statement (.stxZp zp8) := ⟨_, _, rfl, zp8, rfl, rfl⟩

theorem Encoding.saxZp (zp8 : Byte) : Encoding.Statement (.saxZp zp8) := ⟨_, _, rfl, zp8, rfl, rfl⟩

theorem Encoding.nopImm89 (imm8 : Byte) : Encoding.Statement (.nopImm89 imm8) := ⟨_, _, rfl, imm8, rfl, rfl⟩

theorem Encoding.aneImm (imm8 : Byte) : Encoding.Statement (.aneImm imm8) := ⟨_, _, rfl, imm8, rfl, rfl⟩

theorem Encoding.styAbs (addr16 : Word) : Encoding.Statement (.styAbs addr16) := ⟨_, _, rfl, addr16, rfl, rfl⟩

theorem Encoding.staAbs (addr16 : Word) : Encoding.Statement (.staAbs addr16) := ⟨_, _, rfl, addr16, rfl, rfl⟩

theorem Encoding.stxAbs (addr16 : Word) : Encoding.Statement (.stxAbs addr16) := ⟨_, _, rfl, addr16, rfl, rfl⟩

theorem Encoding.saxAbs (addr16 : Word) : Encoding.Statement (.saxAbs addr16) := ⟨_, _, rfl, addr16, rfl, rfl⟩

theorem Encoding.bcc (rel8 : Byte) : Encoding.Statement (.bcc rel8) := ⟨_, _, rfl, rel8, rfl, rfl⟩

theorem Encoding.staIzy (zp8 : Byte) : Encoding.Statement (.staIzy zp8) := ⟨_, _, rfl, zp8, rfl, rfl⟩

theorem Encoding.shaIzy (zp8 : Byte) : Encoding.Statement (.shaIzy zp8) := ⟨_, _, rfl, zp8, rfl, rfl⟩

theorem Encoding.styZpx (zp8 : Byte) : Encoding.Statement (.styZpx zp8) := ⟨_, _, rfl, zp8, rfl, rfl⟩

theorem Encoding.staZpx (zp8 : Byte) : Encoding.Statement (.staZpx zp8) := ⟨_, _, rfl, zp8, rfl, rfl⟩

theorem Encoding.stxZpy (zp8 : Byte) : Encoding.Statement (.stxZpy zp8) := ⟨_, _, rfl, zp8, rfl, rfl⟩

theorem Encoding.saxZpy (zp8 : Byte) : Encoding.Statement (.saxZpy zp8) := ⟨_, _, rfl, zp8, rfl, rfl⟩

theorem Encoding.staAby (addr16 : Word) : Encoding.Statement (.staAby addr16) := ⟨_, _, rfl, addr16, rfl, rfl⟩

theorem Encoding.tasAby (addr16 : Word) : Encoding.Statement (.tasAby addr16) := ⟨_, _, rfl, addr16, rfl, rfl⟩

theorem Encoding.shyAbx (addr16 : Word) : Encoding.Statement (.shyAbx addr16) := ⟨_, _, rfl, addr16, rfl, rfl⟩

theorem Encoding.staAbx (addr16 : Word) : Encoding.Statement (.staAbx addr16) := ⟨_, _, rfl, addr16, rfl, rfl⟩

theorem Encoding.shxAby (addr16 : Word) : Encoding.Statement (.shxAby addr16) := ⟨_, _, rfl, addr16, rfl, rfl⟩

theorem Encoding.shaAby (addr16 : Word) : Encoding.Statement (.shaAby addr16) := ⟨_, _, rfl, addr16, rfl, rfl⟩

theorem Encoding.ldyImm (imm8 : Byte) : Encoding.Statement (.ldyImm imm8) := ⟨_, _, rfl, imm8, rfl, rfl⟩

theorem Encoding.ldaIzx (zp8 : Byte) : Encoding.Statement (.ldaIzx zp8) := ⟨_, _, rfl, zp8, rfl, rfl⟩

theorem Encoding.ldxImm (imm8 : Byte) : Encoding.Statement (.ldxImm imm8) := ⟨_, _, rfl, imm8, rfl, rfl⟩

theorem Encoding.laxIzx (zp8 : Byte) : Encoding.Statement (.laxIzx zp8) := ⟨_, _, rfl, zp8, rfl, rfl⟩

theorem Encoding.ldyZp (zp8 : Byte) : Encoding.Statement (.ldyZp zp8) := ⟨_, _, rfl, zp8, rfl, rfl⟩

theorem Encoding.ldaZp (zp8 : Byte) : Encoding.Statement (.ldaZp zp8) := ⟨_, _, rfl, zp8, rfl, rfl⟩

theorem Encoding.ldxZp (zp8 : Byte) : Encoding.Statement (.ldxZp zp8) := ⟨_, _, rfl, zp8, rfl, rfl⟩

theorem Encoding.laxZp (zp8 : Byte) : Encoding.Statement (.laxZp zp8) := ⟨_, _, rfl, zp8, rfl, rfl⟩

theorem Encoding.ldaImm (imm8 : Byte) : Encoding.Statement (.ldaImm imm8) := ⟨_, _, rfl, imm8, rfl, rfl⟩

theorem Encoding.lxaImm (imm8 : Byte) : Encoding.Statement (.lxaImm imm8) := ⟨_, _, rfl, imm8, rfl, rfl⟩

theorem Encoding.ldyAbs (addr16 : Word) : Encoding.Statement (.ldyAbs addr16) := ⟨_, _, rfl, addr16, rfl, rfl⟩

theorem Encoding.ldaAbs (addr16 : Word) : Encoding.Statement (.ldaAbs addr16) := ⟨_, _, rfl, addr16, rfl, rfl⟩

theorem Encoding.ldxAbs (addr16 : Word) : Encoding.Statement (.ldxAbs addr16) := ⟨_, _, rfl, addr16, rfl, rfl⟩

theorem Encoding.laxAbs (addr16 : Word) : Encoding.Statement (.laxAbs addr16) := ⟨_, _, rfl, addr16, rfl, rfl⟩

theorem Encoding.bcs (rel8 : Byte) : Encoding.Statement (.bcs rel8) := ⟨_, _, rfl, rel8, rfl, rfl⟩

theorem Encoding.ldaIzy (zp8 : Byte) : Encoding.Statement (.ldaIzy zp8) := ⟨_, _, rfl, zp8, rfl, rfl⟩

theorem Encoding.laxIzy (zp8 : Byte) : Encoding.Statement (.laxIzy zp8) := ⟨_, _, rfl, zp8, rfl, rfl⟩

theorem Encoding.ldyZpx (zp8 : Byte) : Encoding.Statement (.ldyZpx zp8) := ⟨_, _, rfl, zp8, rfl, rfl⟩

theorem Encoding.ldaZpx (zp8 : Byte) : Encoding.Statement (.ldaZpx zp8) := ⟨_, _, rfl, zp8, rfl, rfl⟩

theorem Encoding.ldxZpy (zp8 : Byte) : Encoding.Statement (.ldxZpy zp8) := ⟨_, _, rfl, zp8, rfl, rfl⟩

theorem Encoding.laxZpy (zp8 : Byte) : Encoding.Statement (.laxZpy zp8) := ⟨_, _, rfl, zp8, rfl, rfl⟩

theorem Encoding.ldaAby (addr16 : Word) : Encoding.Statement (.ldaAby addr16) := ⟨_, _, rfl, addr16, rfl, rfl⟩

theorem Encoding.lasAby (addr16 : Word) : Encoding.Statement (.lasAby addr16) := ⟨_, _, rfl, addr16, rfl, rfl⟩

theorem Encoding.ldyAbx (addr16 : Word) : Encoding.Statement (.ldyAbx addr16) := ⟨_, _, rfl, addr16, rfl, rfl⟩

theorem Encoding.ldaAbx (addr16 : Word) : Encoding.Statement (.ldaAbx addr16) := ⟨_, _, rfl, addr16, rfl, rfl⟩

theorem Encoding.ldxAby (addr16 : Word) : Encoding.Statement (.ldxAby addr16) := ⟨_, _, rfl, addr16, rfl, rfl⟩

theorem Encoding.laxAby (addr16 : Word) : Encoding.Statement (.laxAby addr16) := ⟨_, _, rfl, addr16, rfl, rfl⟩

theorem Encoding.cpyImm (imm8 : Byte) : Encoding.Statement (.cpyImm imm8) := ⟨_, _, rfl, imm8, rfl, rfl⟩

theorem Encoding.cmpIzx (zp8 : Byte) : Encoding.Statement (.cmpIzx zp8) := ⟨_, _, rfl, zp8, rfl, rfl⟩

theorem Encoding.nopImmC2 (imm8 : Byte) : Encoding.Statement (.nopImmC2 imm8) := ⟨_, _, rfl, imm8, rfl, rfl⟩

theorem Encoding.dcpIzx (zp8 : Byte) : Encoding.Statement (.dcpIzx zp8) := ⟨_, _, rfl, zp8, rfl, rfl⟩

theorem Encoding.cpyZp (zp8 : Byte) : Encoding.Statement (.cpyZp zp8) := ⟨_, _, rfl, zp8, rfl, rfl⟩

theorem Encoding.cmpZp (zp8 : Byte) : Encoding.Statement (.cmpZp zp8) := ⟨_, _, rfl, zp8, rfl, rfl⟩

theorem Encoding.decZp (zp8 : Byte) : Encoding.Statement (.decZp zp8) := ⟨_, _, rfl, zp8, rfl, rfl⟩

theorem Encoding.dcpZp (zp8 : Byte) : Encoding.Statement (.dcpZp zp8) := ⟨_, _, rfl, zp8, rfl, rfl⟩

theorem Encoding.cmpImm (imm8 : Byte) : Encoding.Statement (.cmpImm imm8) := ⟨_, _, rfl, imm8, rfl, rfl⟩

theorem Encoding.sbxImm (imm8 : Byte) : Encoding.Statement (.sbxImm imm8) := ⟨_, _, rfl, imm8, rfl, rfl⟩

theorem Encoding.cpyAbs (addr16 : Word) : Encoding.Statement (.cpyAbs addr16) := ⟨_, _, rfl, addr16, rfl, rfl⟩

theorem Encoding.cmpAbs (addr16 : Word) : Encoding.Statement (.cmpAbs addr16) := ⟨_, _, rfl, addr16, rfl, rfl⟩

theorem Encoding.decAbs (addr16 : Word) : Encoding.Statement (.decAbs addr16) := ⟨_, _, rfl, addr16, rfl, rfl⟩

theorem Encoding.dcpAbs (addr16 : Word) : Encoding.Statement (.dcpAbs addr16) := ⟨_, _, rfl, addr16, rfl, rfl⟩

theorem Encoding.bne (rel8 : Byte) : Encoding.Statement (.bne rel8) := ⟨_, _, rfl, rel8, rfl, rfl⟩

theorem Encoding.cmpIzy (zp8 : Byte) : Encoding.Statement (.cmpIzy zp8) := ⟨_, _, rfl, zp8, rfl, rfl⟩

theorem Encoding.dcpIzy (zp8 : Byte) : Encoding.Statement (.dcpIzy zp8) := ⟨_, _, rfl, zp8, rfl, rfl⟩

theorem Encoding.nopZpxD4 (zp8 : Byte) : Encoding.Statement (.nopZpxD4 zp8) := ⟨_, _, rfl, zp8, rfl, rfl⟩

theorem Encoding.cmpZpx (zp8 : Byte) : Encoding.Statement (.cmpZpx zp8) := ⟨_, _, rfl, zp8, rfl, rfl⟩

theorem Encoding.decZpx (zp8 : Byte) : Encoding.Statement (.decZpx zp8) := ⟨_, _, rfl, zp8, rfl, rfl⟩

theorem Encoding.dcpZpx (zp8 : Byte) : Encoding.Statement (.dcpZpx zp8) := ⟨_, _, rfl, zp8, rfl, rfl⟩

theorem Encoding.cmpAby (addr16 : Word) : Encoding.Statement (.cmpAby addr16) := ⟨_, _, rfl, addr16, rfl, rfl⟩

theorem Encoding.dcpAby (addr16 : Word) : Encoding.Statement (.dcpAby addr16) := ⟨_, _, rfl, addr16, rfl, rfl⟩

theorem Encoding.nopAbxDC (addr16 : Word) : Encoding.Statement (.nopAbxDC addr16) := ⟨_, _, rfl, addr16, rfl, rfl⟩

theorem Encoding.cmpAbx (addr16 : Word) : Encoding.Statement (.cmpAbx addr16) := ⟨_, _, rfl, addr16, rfl, rfl⟩

theorem Encoding.decAbx (addr16 : Word) : Encoding.Statement (.decAbx addr16) := ⟨_, _, rfl, addr16, rfl, rfl⟩

theorem Encoding.dcpAbx (addr16 : Word) : Encoding.Statement (.dcpAbx addr16) := ⟨_, _, rfl, addr16, rfl, rfl⟩

theorem Encoding.cpxImm (imm8 : Byte) : Encoding.Statement (.cpxImm imm8) := ⟨_, _, rfl, imm8, rfl, rfl⟩

theorem Encoding.sbcIzx (zp8 : Byte) : Encoding.Statement (.sbcIzx zp8) := ⟨_, _, rfl, zp8, rfl, rfl⟩

theorem Encoding.nopImmE2 (imm8 : Byte) : Encoding.Statement (.nopImmE2 imm8) := ⟨_, _, rfl, imm8, rfl, rfl⟩

theorem Encoding.iscIzx (zp8 : Byte) : Encoding.Statement (.iscIzx zp8) := ⟨_, _, rfl, zp8, rfl, rfl⟩

theorem Encoding.cpxZp (zp8 : Byte) : Encoding.Statement (.cpxZp zp8) := ⟨_, _, rfl, zp8, rfl, rfl⟩

theorem Encoding.sbcZp (zp8 : Byte) : Encoding.Statement (.sbcZp zp8) := ⟨_, _, rfl, zp8, rfl, rfl⟩

theorem Encoding.incZp (zp8 : Byte) : Encoding.Statement (.incZp zp8) := ⟨_, _, rfl, zp8, rfl, rfl⟩

theorem Encoding.iscZp (zp8 : Byte) : Encoding.Statement (.iscZp zp8) := ⟨_, _, rfl, zp8, rfl, rfl⟩

theorem Encoding.sbcImm (imm8 : Byte) : Encoding.Statement (.sbcImm imm8) := ⟨_, _, rfl, imm8, rfl, rfl⟩

theorem Encoding.usbcImm (imm8 : Byte) : Encoding.Statement (.usbcImm imm8) := ⟨_, _, rfl, imm8, rfl, rfl⟩

theorem Encoding.cpxAbs (addr16 : Word) : Encoding.Statement (.cpxAbs addr16) := ⟨_, _, rfl, addr16, rfl, rfl⟩

theorem Encoding.sbcAbs (addr16 : Word) : Encoding.Statement (.sbcAbs addr16) := ⟨_, _, rfl, addr16, rfl, rfl⟩

theorem Encoding.incAbs (addr16 : Word) : Encoding.Statement (.incAbs addr16) := ⟨_, _, rfl, addr16, rfl, rfl⟩

theorem Encoding.iscAbs (addr16 : Word) : Encoding.Statement (.iscAbs addr16) := ⟨_, _, rfl, addr16, rfl, rfl⟩

theorem Encoding.beq (rel8 : Byte) : Encoding.Statement (.beq rel8) := ⟨_, _, rfl, rel8, rfl, rfl⟩

theorem Encoding.sbcIzy (zp8 : Byte) : Encoding.Statement (.sbcIzy zp8) := ⟨_, _, rfl, zp8, rfl, rfl⟩

theorem Encoding.iscIzy (zp8 : Byte) : Encoding.Statement (.iscIzy zp8) := ⟨_, _, rfl, zp8, rfl, rfl⟩

theorem Encoding.nopZpxF4 (zp8 : Byte) : Encoding.Statement (.nopZpxF4 zp8) := ⟨_, _, rfl, zp8, rfl, rfl⟩

theorem Encoding.sbcZpx (zp8 : Byte) : Encoding.Statement (.sbcZpx zp8) := ⟨_, _, rfl, zp8, rfl, rfl⟩

theorem Encoding.incZpx (zp8 : Byte) : Encoding.Statement (.incZpx zp8) := ⟨_, _, rfl, zp8, rfl, rfl⟩

theorem Encoding.iscZpx (zp8 : Byte) : Encoding.Statement (.iscZpx zp8) := ⟨_, _, rfl, zp8, rfl, rfl⟩

theorem Encoding.sbcAby (addr16 : Word) : Encoding.Statement (.sbcAby addr16) := ⟨_, _, rfl, addr16, rfl, rfl⟩

theorem Encoding.iscAby (addr16 : Word) : Encoding.Statement (.iscAby addr16) := ⟨_, _, rfl, addr16, rfl, rfl⟩

theorem Encoding.nopAbxFC (addr16 : Word) : Encoding.Statement (.nopAbxFC addr16) := ⟨_, _, rfl, addr16, rfl, rfl⟩

theorem Encoding.sbcAbx (addr16 : Word) : Encoding.Statement (.sbcAbx addr16) := ⟨_, _, rfl, addr16, rfl, rfl⟩

theorem Encoding.incAbx (addr16 : Word) : Encoding.Statement (.incAbx addr16) := ⟨_, _, rfl, addr16, rfl, rfl⟩

theorem Encoding.iscAbx (addr16 : Word) : Encoding.Statement (.iscAbx addr16) := ⟨_, _, rfl, addr16, rfl, rfl⟩

theorem Encoding.jam02 : Encoding.Statement .jam02 := ⟨_, _, rfl, rfl, rfl⟩

theorem Encoding.php : Encoding.Statement .php := ⟨_, _, rfl, rfl, rfl⟩

theorem Encoding.aslAcc : Encoding.Statement .aslAcc := ⟨_, _, rfl, rfl, rfl⟩

theorem Encoding.jam12 : Encoding.Statement .jam12 := ⟨_, _, rfl, rfl, rfl⟩

theorem Encoding.clc : Encoding.Statement .clc := ⟨_, _, rfl, rfl, rfl⟩

theorem Encoding.nop1A : Encoding.Statement .nop1A := ⟨_, _, rfl, rfl, rfl⟩

theorem Encoding.jam22 : Encoding.Statement .jam22 := ⟨_, _, rfl, rfl, rfl⟩

theorem Encoding.plp : Encoding.Statement .plp := ⟨_, _, rfl, rfl, rfl⟩

theorem Encoding.rolAcc : Encoding.Statement .rolAcc := ⟨_, _, rfl, rfl, rfl⟩

theorem Encoding.jam32 : Encoding.Statement .jam32 := ⟨_, _, rfl, rfl, rfl⟩

theorem Encoding.sec : Encoding.Statement .sec := ⟨_, _, rfl, rfl, rfl⟩

theorem Encoding.nop3A : Encoding.Statement .nop3A := ⟨_, _, rfl, rfl, rfl⟩

theorem Encoding.rti : Encoding.Statement .rti := ⟨_, _, rfl, rfl, rfl⟩

theorem Encoding.jam42 : Encoding.Statement .jam42 := ⟨_, _, rfl, rfl, rfl⟩

theorem Encoding.pha : Encoding.Statement .pha := ⟨_, _, rfl, rfl, rfl⟩

theorem Encoding.lsrAcc : Encoding.Statement .lsrAcc := ⟨_, _, rfl, rfl, rfl⟩

theorem Encoding.jam52 : Encoding.Statement .jam52 := ⟨_, _, rfl, rfl, rfl⟩

theorem Encoding.cli : Encoding.Statement .cli := ⟨_, _, rfl, rfl, rfl⟩

theorem Encoding.nop5A : Encoding.Statement .nop5A := ⟨_, _, rfl, rfl, rfl⟩

theorem Encoding.rts : Encoding.Statement .rts := ⟨_, _, rfl, rfl, rfl⟩

theorem Encoding.jam62 : Encoding.Statement .jam62 := ⟨_, _, rfl, rfl, rfl⟩

theorem Encoding.pla : Encoding.Statement .pla := ⟨_, _, rfl, rfl, rfl⟩

theorem Encoding.rorAcc : Encoding.Statement .rorAcc := ⟨_, _, rfl, rfl, rfl⟩

theorem Encoding.jam72 : Encoding.Statement .jam72 := ⟨_, _, rfl, rfl, rfl⟩

theorem Encoding.sei : Encoding.Statement .sei := ⟨_, _, rfl, rfl, rfl⟩

theorem Encoding.nop7A : Encoding.Statement .nop7A := ⟨_, _, rfl, rfl, rfl⟩

theorem Encoding.dey : Encoding.Statement .dey := ⟨_, _, rfl, rfl, rfl⟩

theorem Encoding.txa : Encoding.Statement .txa := ⟨_, _, rfl, rfl, rfl⟩

theorem Encoding.jam92 : Encoding.Statement .jam92 := ⟨_, _, rfl, rfl, rfl⟩

theorem Encoding.tya : Encoding.Statement .tya := ⟨_, _, rfl, rfl, rfl⟩

theorem Encoding.txs : Encoding.Statement .txs := ⟨_, _, rfl, rfl, rfl⟩

theorem Encoding.tay : Encoding.Statement .tay := ⟨_, _, rfl, rfl, rfl⟩

theorem Encoding.tax : Encoding.Statement .tax := ⟨_, _, rfl, rfl, rfl⟩

theorem Encoding.jamB2 : Encoding.Statement .jamB2 := ⟨_, _, rfl, rfl, rfl⟩

theorem Encoding.clv : Encoding.Statement .clv := ⟨_, _, rfl, rfl, rfl⟩

theorem Encoding.tsx : Encoding.Statement .tsx := ⟨_, _, rfl, rfl, rfl⟩

theorem Encoding.iny : Encoding.Statement .iny := ⟨_, _, rfl, rfl, rfl⟩

theorem Encoding.dex : Encoding.Statement .dex := ⟨_, _, rfl, rfl, rfl⟩

theorem Encoding.jamD2 : Encoding.Statement .jamD2 := ⟨_, _, rfl, rfl, rfl⟩

theorem Encoding.cld : Encoding.Statement .cld := ⟨_, _, rfl, rfl, rfl⟩

theorem Encoding.nopDA : Encoding.Statement .nopDA := ⟨_, _, rfl, rfl, rfl⟩

theorem Encoding.inx : Encoding.Statement .inx := ⟨_, _, rfl, rfl, rfl⟩

theorem Encoding.nop : Encoding.Statement .nop := ⟨_, _, rfl, rfl, rfl⟩

theorem Encoding.jamF2 : Encoding.Statement .jamF2 := ⟨_, _, rfl, rfl, rfl⟩

theorem Encoding.sed : Encoding.Statement .sed := ⟨_, _, rfl, rfl, rfl⟩

theorem Encoding.nopFA : Encoding.Statement .nopFA := ⟨_, _, rfl, rfl, rfl⟩

end Sys2Proof.Laws
end

