-- ==== Sys2Proof/Laws/Sequences.lean ====
section
/-! SUPPORT. What the checks of R300 decide, what the high-byte stores' tail does, and the memory invariant of the operations
that place bytes from outside. -/

namespace Sys2Proof.Machine

/-! ### The checks at the start of a step (R300) -/

/-- A step that finds RESET low is idle. -/
theorem State.prelude_held (s : State) (h : s.resetLow = true) : s.prelude = .idle s.holdReset := by
  simp [State.prelude, h]

/-- A step of a jammed CPU with RESET high and no reset pending is idle. -/
theorem State.prelude_jammed (s : State) (h : s.resetLow = false) (hp : s.resetPending = false) (hj : s.jammed = true) :
    s.prelude = .idle { s with resetHeld := false } := by
  simp [State.prelude, h, hp, hj]

/-- A pending reset at a boundary starts the reset sequence. -/
theorem State.prelude_reset (s : State) (h : s.resetLow = false) (hp : s.resetPending = true) (hb : s.micro.stage = .opcode)
    (hj : s.jammed = false) : s.prelude = .run { s with resetHeld := false }.startReset := by
  simp [State.prelude, State.startReset, h, hp, hb, hj]

/-- A pending interrupt at a boundary starts the interrupt sequence. -/
theorem State.prelude_irq (s : State) (h : s.resetLow = false) (hp : s.resetPending = false) (hb : s.micro.stage = .opcode)
    (hj : s.jammed = false) (hi : s.irqPending = true) : s.prelude = .run { s with resetHeld := false }.startIrq := by
  simp [State.prelude, h, hp, hb, hj, hi]

/-- A step about to fetch, with nothing pending. -/
theorem State.prelude_ready (s : State) (h : s.Ready) : s.prelude = .run { s with resetHeld := false } := by
  simp [State.prelude, State.resetLow, h.resetHigh, h.noReset, h.notJammed, h.noIrq]

/-- A step inside a sequence. -/
theorem State.prelude_inside (s : State) (h : s.resetLow = false) (hj : s.jammed = false) (hb : s.micro.stage ≠ .opcode) :
    s.prelude = .run { s with resetHeld := false } := by
  simp [State.prelude, h, hj, hb]

/-- What a state about to fetch, with RDY high, comes to. -/
theorem State.upcoming_ready (s : State) (h : s.Ready) : { s with resetHeld := false }.upcoming = .instruction := by
  simp [State.upcoming, h.stage, State.rdyLow, h.rdyHigh]

/-- An idle step leaves the CPU halted (R308, R313). -/
theorem State.prelude_idle {s t : State} (h : s.prelude = .idle t) : t.isHalted = true := by
  unfold State.prelude at h
  split at h
  · cases h; rfl
  · by_cases hr : (s.resetPending && decide (s.micro.stage = .opcode)) = true <;>
      cases hj : s.jammed <;> simp [hr, State.startReset, hj] at h
    all_goals
      first
      | (subst h; simp [State.isHalted])
      | (split at h <;> cases h)

/-- A step that is not idle finds the CPU neither halted nor, where a pending reset waits at a boundary, with a reset still
pending (R309). -/
theorem State.prelude_run {s t : State} (h : s.prelude = .run t) (hp : s.resetPending = true → s.micro.stage = .opcode) :
    t.isHalted = false ∧ t.resetPending = false := by
  unfold State.prelude at h
  split at h
  · cases h
  · cases hr : s.resetPending <;> simp [hr, State.startReset] at h hp
    all_goals
      repeat' split at h
      all_goals cases h
      all_goals simp_all [State.isHalted, State.startIrq]

/-! ### High-byte stores (R616, R372) -/

/-- Whether RDY or AEC was low during a high-byte store, seen at its last cycle, in a mode with a latched base. -/
theorem State.headAbsFixed_open (s : State) (op : Byte) (addr : Word) (index : Byte) :
    (s.headAbsFixed op addr index).highStoreOpen = (s.aecLow || s.rdyLow) := by
  cases ha : s.aecLow <;> cases hr : s.rdyLow <;>
    simp [State.headAbsFixed, State.fetch3, State.fetch2, State.highStoreOpen, ha, hr]

/-- The same for (zp),Y. -/
theorem State.headIzyFixed_open (s : State) (op zp : Byte) :
    (s.headIzyFixed op zp).highStoreOpen = (s.aecLow || s.rdyLow) := by
  cases ha : s.aecLow <;> cases hr : s.rdyLow <;>
    simp [State.headIzyFixed, State.headIzy, State.fetch2, State.highStoreOpen, ha, hr]

/-- A high-byte store completes with the one write its address and value functions give. -/
theorem highStores_of_head {i : Instr} {s t : State} {m : Access} {base : Word} {index : Byte} {reg : State → Byte}
    {effect : State → State} {f : Regs → Regs} (w : s.mem.wf = true) (h : AtOperand s t m) (henc : encode i = m.code)
    (hexec : exec i s = .next (t.highStoreTail base index reg effect)) (he : ∀ u, effect u = u.withRegs (f u.regs)) :
    Completes i s
      { code := m.code
        bus := m.head ++ [wr (t.highStoreAddr base index (reg t)) (t.highStoreValue base (reg t))]
        regs := f s.regs
        pc := s.pcAfter m.code } := by
  rw [State.highStoreTail, he] at hexec
  refine completes_of_after henc hexec ?_ (.inl w) ?_ ?_ ?_
  · have a := ((h.after.trans (After.poll t)).trans (After.write _ (t.highStoreAddr base index (reg t))
      (t.highStoreValue base (reg t)))).trans (After.withRegs _ (f s.regs))
    have e : (t.poll.writeCycle (t.highStoreAddr base index (reg t)) (t.highStoreValue base (reg t))).regs = s.regs := by
      rw [← h.regs]; simp [State.regs]
    rw [e]
    simpa using a
  · show f _ = f _
    congr 1
    rw [← h.regs]; simp [State.regs]
  · rw [← h.pc]; simp [State.withRegs]
  · rw [← h.last]; simp [State.withRegs]

/-! ### Bytes placed from outside -/

/-- An image load keeps memory's canonical form. -/
theorem State.storeImage_wf (s : State) (base : Word) (bytes : List Byte) (h : s.mem.wf = true) :
    (s.storeImage base bytes).mem.wf = true := by
  induction bytes generalizing s base with
  | nil => exact h
  | cons b rest ih =>
    unfold State.storeImage
    split
    · exact ih _ _ h
    · exact ih _ _ (Memory.wf_write_word _ _ _ h)

/-- Placing an instruction at PC keeps memory's canonical form. -/
theorem State.withFetchWord_wf (s : State) (nbits w : Nat) (h : s.mem.wf = true) : (s.withFetchWord nbits w).mem.wf = true :=
  Memory.wf_write_word _ _ _ (Memory.wf_write_word _ _ _ (Memory.wf_write_word _ _ _ h))

end Sys2Proof.Machine
end

