-- ==== Sys2Proof/Tests/Slice0.lean ====
section
/-! SUPPORT. Tests. Every expected value is the spec's: the opcode map (30_encoding.md R154) for the words, and
95_test_vectors.md for the rest, whose vector each docstring names. The last part has, for every statement of
Certificates/Slice0/Obligations.lean with hypotheses, a state and operands that meet them all. -/

open Sys2Proof Sys2Proof.Machine

namespace Sys2Proof.Tests

/-! ### Helpers -/

/-- A ready state with registers, PC, flags (as a status byte) and memory cells, no cycle counted. The control pins are
high. -/
def start (a x y sp : Byte) (pc : Word) (flags : Byte) (cells : List (Nat × Byte)) : State :=
  { State.reset with
    a := a
    x := x
    y := y
    sp := sp
    pc := pc
    p := Flags.unpack flags
    mem := cells.foldl (fun m c => Memory.write m c.1 c.2) []
    trace := []
    cycleCounter := 0 }

/-- What a vector expects after one step. -/
structure Want where
  regs : Regs
  pc : Word
  cycles : Nat
  cells : List (Nat × Byte)

/-- An expectation, in the order of a vector's columns. -/
def want (a x y sp : Byte) (pc : Word) (flags : Byte) (cycles : Nat) (cells : List (Nat × Byte)) : Want :=
  { regs := { a := a, x := x, y := y, sp := sp, p := Flags.unpack flags }, pc := pc, cycles := cycles, cells := cells }

/-- One step from `s` gives what is wanted. -/
def gives (s : State) (w : Want) : Bool :=
  match step s with
  | .next t =>
    decide (t.regs = w.regs) && decide (t.pc = w.pc) && decide (t.cycleCounter = w.cycles) &&
      w.cells.all (fun c => decide (t.mem.read c.1 = c.2))
  | _ => false

def allGive (vectors : List (State × Want)) : Bool := vectors.all (fun v => gives v.1 v.2)

/-- The transactions of a state's trace, oldest first. -/
def busOf (t : State) : List (Nat × Rw × Byte) := (t.trace.map (fun x => (x.addr.toNat, x.rw, x.data))).reverse

/-- One step from `s` has exactly these transactions. -/
def traceIs (s : State) (bus : List (Nat × Rw × Byte)) : Bool :=
  match step s with
  | .next t => decide (busOf t = bus)
  | _ => false

/-- Every list of bytes decodes to its instruction, with nothing left, and is its encoding. -/
def decodesTo (words : List (List Byte × Instr)) : Bool :=
  words.all (fun w =>
    match decode w.1 with
    | .ok (i, rest) => decide (i = w.2) && rest.isEmpty && decide (encode i = w.1)
    | .error _ => false)

/-! ### Well-formed byte lists -/

theorem test_wf_no_opcode : wellFormedBytes [] = false := by decide
theorem test_wf_missing_byte : wellFormedBytes [0xA9] = false := by decide
theorem test_wf_missing_high_byte : wellFormedBytes [0xAD, 0x00] = false := by decide
theorem test_wf_extra_byte : wellFormedBytes [0xEA, 0x00] = false := by decide
theorem test_wf_brk_without_signature : wellFormedBytes [0x00] = false := by decide
theorem test_wf_each_format :
    wellFormedBytes [0xEA] = true ∧ wellFormedBytes [0x00, 0xEA] = true ∧ wellFormedBytes [0xA9, 0x01] = true ∧
      wellFormedBytes [0xAD, 0x00, 0x10] = true := by decide

/-- The decoder names what is missing. -/
theorem test_decode_names_rejection :
    (match decode [0x20, 0x00] with | .error e => decide (e = .missingOperand 0x20) | .ok _ => false) = true ∧
    (match decode [] with | .error e => decide (e = .noOpcode) | .ok _ => false) = true := by decide

/-- Table words: the second byte is bits 15 to 8, the third bits 23 to 16; bits not given are zero. -/
theorem test_decode_table_word :
    decodeTableWord 24 0x1234AD = some (.ldaAbs 0x1234) ∧ decodeTableWord 8 0xAD = some (.ldaAbs 0x0000) ∧
      decodeTableWord 16 0x42A9 = some (.ldaImm 0x42) := by decide

/-! ### Decoding, row by row -/

/-- Row 0x of the opcode map (R154): each byte, with operand bytes where its format has them (R151). -/
theorem test_decode_row0 : decodesTo
    [([0x00, 0x42], .brk 0x42), ([0x01, 0x42], .oraIzx 0x42), ([0x02], .jam02), ([0x03, 0x42], .sloIzx 0x42),
     ([0x04, 0x42], .nopZp04 0x42), ([0x05, 0x42], .oraZp 0x42), ([0x06, 0x42], .aslZp 0x42), ([0x07, 0x42], .sloZp 0x42),
     ([0x08], .php), ([0x09, 0x42], .oraImm 0x42), ([0x0A], .aslAcc), ([0x0B, 0x42], .ancImm0B 0x42),
     ([0x0C, 0x34, 0x12], .nopAbs 0x1234), ([0x0D, 0x34, 0x12], .oraAbs 0x1234), ([0x0E, 0x34, 0x12], .aslAbs 0x1234), ([0x0F, 0x34, 0x12], .sloAbs 0x1234)] = true := by decide

/-- Row 1x of the opcode map (R154): each byte, with operand bytes where its format has them (R151). -/
theorem test_decode_row1 : decodesTo
    [([0x10, 0x42], .bpl 0x42), ([0x11, 0x42], .oraIzy 0x42), ([0x12], .jam12), ([0x13, 0x42], .sloIzy 0x42),
     ([0x14, 0x42], .nopZpx14 0x42), ([0x15, 0x42], .oraZpx 0x42), ([0x16, 0x42], .aslZpx 0x42), ([0x17, 0x42], .sloZpx 0x42),
     ([0x18], .clc), ([0x19, 0x34, 0x12], .oraAby 0x1234), ([0x1A], .nop1A), ([0x1B, 0x34, 0x12], .sloAby 0x1234),
     ([0x1C, 0x34, 0x12], .nopAbx1C 0x1234), ([0x1D, 0x34, 0x12], .oraAbx 0x1234), ([0x1E, 0x34, 0x12], .aslAbx 0x1234), ([0x1F, 0x34, 0x12], .sloAbx 0x1234)] = true := by decide

/-- Row 2x of the opcode map (R154): each byte, with operand bytes where its format has them (R151). -/
theorem test_decode_row2 : decodesTo
    [([0x20, 0x34, 0x12], .jsrAbs 0x1234), ([0x21, 0x42], .andIzx 0x42), ([0x22], .jam22), ([0x23, 0x42], .rlaIzx 0x42),
     ([0x24, 0x42], .bitZp 0x42), ([0x25, 0x42], .andZp 0x42), ([0x26, 0x42], .rolZp 0x42), ([0x27, 0x42], .rlaZp 0x42),
     ([0x28], .plp), ([0x29, 0x42], .andImm 0x42), ([0x2A], .rolAcc), ([0x2B, 0x42], .ancImm2B 0x42),
     ([0x2C, 0x34, 0x12], .bitAbs 0x1234), ([0x2D, 0x34, 0x12], .andAbs 0x1234), ([0x2E, 0x34, 0x12], .rolAbs 0x1234), ([0x2F, 0x34, 0x12], .rlaAbs 0x1234)] = true := by decide

/-- Row 3x of the opcode map (R154): each byte, with operand bytes where its format has them (R151). -/
theorem test_decode_row3 : decodesTo
    [([0x30, 0x42], .bmi 0x42), ([0x31, 0x42], .andIzy 0x42), ([0x32], .jam32), ([0x33, 0x42], .rlaIzy 0x42),
     ([0x34, 0x42], .nopZpx34 0x42), ([0x35, 0x42], .andZpx 0x42), ([0x36, 0x42], .rolZpx 0x42), ([0x37, 0x42], .rlaZpx 0x42),
     ([0x38], .sec), ([0x39, 0x34, 0x12], .andAby 0x1234), ([0x3A], .nop3A), ([0x3B, 0x34, 0x12], .rlaAby 0x1234),
     ([0x3C, 0x34, 0x12], .nopAbx3C 0x1234), ([0x3D, 0x34, 0x12], .andAbx 0x1234), ([0x3E, 0x34, 0x12], .rolAbx 0x1234), ([0x3F, 0x34, 0x12], .rlaAbx 0x1234)] = true := by decide

/-- Row 4x of the opcode map (R154): each byte, with operand bytes where its format has them (R151). -/
theorem test_decode_row4 : decodesTo
    [([0x40], .rti), ([0x41, 0x42], .eorIzx 0x42), ([0x42], .jam42), ([0x43, 0x42], .sreIzx 0x42),
     ([0x44, 0x42], .nopZp44 0x42), ([0x45, 0x42], .eorZp 0x42), ([0x46, 0x42], .lsrZp 0x42), ([0x47, 0x42], .sreZp 0x42),
     ([0x48], .pha), ([0x49, 0x42], .eorImm 0x42), ([0x4A], .lsrAcc), ([0x4B, 0x42], .alrImm 0x42),
     ([0x4C, 0x34, 0x12], .jmpAbs 0x1234), ([0x4D, 0x34, 0x12], .eorAbs 0x1234), ([0x4E, 0x34, 0x12], .lsrAbs 0x1234), ([0x4F, 0x34, 0x12], .sreAbs 0x1234)] = true := by decide

/-- Row 5x of the opcode map (R154): each byte, with operand bytes where its format has them (R151). -/
theorem test_decode_row5 : decodesTo
    [([0x50, 0x42], .bvc 0x42), ([0x51, 0x42], .eorIzy 0x42), ([0x52], .jam52), ([0x53, 0x42], .sreIzy 0x42),
     ([0x54, 0x42], .nopZpx54 0x42), ([0x55, 0x42], .eorZpx 0x42), ([0x56, 0x42], .lsrZpx 0x42), ([0x57, 0x42], .sreZpx 0x42),
     ([0x58], .cli), ([0x59, 0x34, 0x12], .eorAby 0x1234), ([0x5A], .nop5A), ([0x5B, 0x34, 0x12], .sreAby 0x1234),
     ([0x5C, 0x34, 0x12], .nopAbx5C 0x1234), ([0x5D, 0x34, 0x12], .eorAbx 0x1234), ([0x5E, 0x34, 0x12], .lsrAbx 0x1234), ([0x5F, 0x34, 0x12], .sreAbx 0x1234)] = true := by decide

/-- Row 6x of the opcode map (R154): each byte, with operand bytes where its format has them (R151). -/
theorem test_decode_row6 : decodesTo
    [([0x60], .rts), ([0x61, 0x42], .adcIzx 0x42), ([0x62], .jam62), ([0x63, 0x42], .rraIzx 0x42),
     ([0x64, 0x42], .nopZp64 0x42), ([0x65, 0x42], .adcZp 0x42), ([0x66, 0x42], .rorZp 0x42), ([0x67, 0x42], .rraZp 0x42),
     ([0x68], .pla), ([0x69, 0x42], .adcImm 0x42), ([0x6A], .rorAcc), ([0x6B, 0x42], .arrImm 0x42),
     ([0x6C, 0x34, 0x12], .jmpInd 0x1234), ([0x6D, 0x34, 0x12], .adcAbs 0x1234), ([0x6E, 0x34, 0x12], .rorAbs 0x1234), ([0x6F, 0x34, 0x12], .rraAbs 0x1234)] = true := by decide

/-- Row 7x of the opcode map (R154): each byte, with operand bytes where its format has them (R151). -/
theorem test_decode_row7 : decodesTo
    [([0x70, 0x42], .bvs 0x42), ([0x71, 0x42], .adcIzy 0x42), ([0x72], .jam72), ([0x73, 0x42], .rraIzy 0x42),
     ([0x74, 0x42], .nopZpx74 0x42), ([0x75, 0x42], .adcZpx 0x42), ([0x76, 0x42], .rorZpx 0x42), ([0x77, 0x42], .rraZpx 0x42),
     ([0x78], .sei), ([0x79, 0x34, 0x12], .adcAby 0x1234), ([0x7A], .nop7A), ([0x7B, 0x34, 0x12], .rraAby 0x1234),
     ([0x7C, 0x34, 0x12], .nopAbx7C 0x1234), ([0x7D, 0x34, 0x12], .adcAbx 0x1234), ([0x7E, 0x34, 0x12], .rorAbx 0x1234), ([0x7F, 0x34, 0x12], .rraAbx 0x1234)] = true := by decide

/-- Row 8x of the opcode map (R154): each byte, with operand bytes where its format has them (R151). -/
theorem test_decode_row8 : decodesTo
    [([0x80, 0x42], .nopImm80 0x42), ([0x81, 0x42], .staIzx 0x42), ([0x82, 0x42], .nopImm82 0x42), ([0x83, 0x42], .saxIzx 0x42),
     ([0x84, 0x42], .styZp 0x42), ([0x85, 0x42], .staZp 0x42), ([0x86, 0x42], .stxZp 0x42), ([0x87, 0x42], .saxZp 0x42),
     ([0x88], .dey), ([0x89, 0x42], .nopImm89 0x42), ([0x8A], .txa), ([0x8B, 0x42], .aneImm 0x42),
     ([0x8C, 0x34, 0x12], .styAbs 0x1234), ([0x8D, 0x34, 0x12], .staAbs 0x1234), ([0x8E, 0x34, 0x12], .stxAbs 0x1234), ([0x8F, 0x34, 0x12], .saxAbs 0x1234)] = true := by decide

/-- Row 9x of the opcode map (R154): each byte, with operand bytes where its format has them (R151). -/
theorem test_decode_row9 : decodesTo
    [([0x90, 0x42], .bcc 0x42), ([0x91, 0x42], .staIzy 0x42), ([0x92], .jam92), ([0x93, 0x42], .shaIzy 0x42),
     ([0x94, 0x42], .styZpx 0x42), ([0x95, 0x42], .staZpx 0x42), ([0x96, 0x42], .stxZpy 0x42), ([0x97, 0x42], .saxZpy 0x42),
     ([0x98], .tya), ([0x99, 0x34, 0x12], .staAby 0x1234), ([0x9A], .txs), ([0x9B, 0x34, 0x12], .tasAby 0x1234),
     ([0x9C, 0x34, 0x12], .shyAbx 0x1234), ([0x9D, 0x34, 0x12], .staAbx 0x1234), ([0x9E, 0x34, 0x12], .shxAby 0x1234), ([0x9F, 0x34, 0x12], .shaAby 0x1234)] = true := by decide

/-- Row Ax of the opcode map (R154): each byte, with operand bytes where its format has them (R151). -/
theorem test_decode_rowA : decodesTo
    [([0xA0, 0x42], .ldyImm 0x42), ([0xA1, 0x42], .ldaIzx 0x42), ([0xA2, 0x42], .ldxImm 0x42), ([0xA3, 0x42], .laxIzx 0x42),
     ([0xA4, 0x42], .ldyZp 0x42), ([0xA5, 0x42], .ldaZp 0x42), ([0xA6, 0x42], .ldxZp 0x42), ([0xA7, 0x42], .laxZp 0x42),
     ([0xA8], .tay), ([0xA9, 0x42], .ldaImm 0x42), ([0xAA], .tax), ([0xAB, 0x42], .lxaImm 0x42),
     ([0xAC, 0x34, 0x12], .ldyAbs 0x1234), ([0xAD, 0x34, 0x12], .ldaAbs 0x1234), ([0xAE, 0x34, 0x12], .ldxAbs 0x1234), ([0xAF, 0x34, 0x12], .laxAbs 0x1234)] = true := by decide

/-- Row Bx of the opcode map (R154): each byte, with operand bytes where its format has them (R151). -/
theorem test_decode_rowB : decodesTo
    [([0xB0, 0x42], .bcs 0x42), ([0xB1, 0x42], .ldaIzy 0x42), ([0xB2], .jamB2), ([0xB3, 0x42], .laxIzy 0x42),
     ([0xB4, 0x42], .ldyZpx 0x42), ([0xB5, 0x42], .ldaZpx 0x42), ([0xB6, 0x42], .ldxZpy 0x42), ([0xB7, 0x42], .laxZpy 0x42),
     ([0xB8], .clv), ([0xB9, 0x34, 0x12], .ldaAby 0x1234), ([0xBA], .tsx), ([0xBB, 0x34, 0x12], .lasAby 0x1234),
     ([0xBC, 0x34, 0x12], .ldyAbx 0x1234), ([0xBD, 0x34, 0x12], .ldaAbx 0x1234), ([0xBE, 0x34, 0x12], .ldxAby 0x1234), ([0xBF, 0x34, 0x12], .laxAby 0x1234)] = true := by decide

/-- Row Cx of the opcode map (R154): each byte, with operand bytes where its format has them (R151). -/
theorem test_decode_rowC : decodesTo
    [([0xC0, 0x42], .cpyImm 0x42), ([0xC1, 0x42], .cmpIzx 0x42), ([0xC2, 0x42], .nopImmC2 0x42), ([0xC3, 0x42], .dcpIzx 0x42),
     ([0xC4, 0x42], .cpyZp 0x42), ([0xC5, 0x42], .cmpZp 0x42), ([0xC6, 0x42], .decZp 0x42), ([0xC7, 0x42], .dcpZp 0x42),
     ([0xC8], .iny), ([0xC9, 0x42], .cmpImm 0x42), ([0xCA], .dex), ([0xCB, 0x42], .sbxImm 0x42),
     ([0xCC, 0x34, 0x12], .cpyAbs 0x1234), ([0xCD, 0x34, 0x12], .cmpAbs 0x1234), ([0xCE, 0x34, 0x12], .decAbs 0x1234), ([0xCF, 0x34, 0x12], .dcpAbs 0x1234)] = true := by decide

/-- Row Dx of the opcode map (R154): each byte, with operand bytes where its format has them (R151). -/
theorem test_decode_rowD : decodesTo
    [([0xD0, 0x42], .bne 0x42), ([0xD1, 0x42], .cmpIzy 0x42), ([0xD2], .jamD2), ([0xD3, 0x42], .dcpIzy 0x42),
     ([0xD4, 0x42], .nopZpxD4 0x42), ([0xD5, 0x42], .cmpZpx 0x42), ([0xD6, 0x42], .decZpx 0x42), ([0xD7, 0x42], .dcpZpx 0x42),
     ([0xD8], .cld), ([0xD9, 0x34, 0x12], .cmpAby 0x1234), ([0xDA], .nopDA), ([0xDB, 0x34, 0x12], .dcpAby 0x1234),
     ([0xDC, 0x34, 0x12], .nopAbxDC 0x1234), ([0xDD, 0x34, 0x12], .cmpAbx 0x1234), ([0xDE, 0x34, 0x12], .decAbx 0x1234), ([0xDF, 0x34, 0x12], .dcpAbx 0x1234)] = true := by decide

/-- Row Ex of the opcode map (R154): each byte, with operand bytes where its format has them (R151). -/
theorem test_decode_rowE : decodesTo
    [([0xE0, 0x42], .cpxImm 0x42), ([0xE1, 0x42], .sbcIzx 0x42), ([0xE2, 0x42], .nopImmE2 0x42), ([0xE3, 0x42], .iscIzx 0x42),
     ([0xE4, 0x42], .cpxZp 0x42), ([0xE5, 0x42], .sbcZp 0x42), ([0xE6, 0x42], .incZp 0x42), ([0xE7, 0x42], .iscZp 0x42),
     ([0xE8], .inx), ([0xE9, 0x42], .sbcImm 0x42), ([0xEA], .nop), ([0xEB, 0x42], .usbcImm 0x42),
     ([0xEC, 0x34, 0x12], .cpxAbs 0x1234), ([0xED, 0x34, 0x12], .sbcAbs 0x1234), ([0xEE, 0x34, 0x12], .incAbs 0x1234), ([0xEF, 0x34, 0x12], .iscAbs 0x1234)] = true := by decide

/-- Row Fx of the opcode map (R154): each byte, with operand bytes where its format has them (R151). -/
theorem test_decode_rowF : decodesTo
    [([0xF0, 0x42], .beq 0x42), ([0xF1, 0x42], .sbcIzy 0x42), ([0xF2], .jamF2), ([0xF3, 0x42], .iscIzy 0x42),
     ([0xF4, 0x42], .nopZpxF4 0x42), ([0xF5, 0x42], .sbcZpx 0x42), ([0xF6, 0x42], .incZpx 0x42), ([0xF7, 0x42], .iscZpx 0x42),
     ([0xF8], .sed), ([0xF9, 0x34, 0x12], .sbcAby 0x1234), ([0xFA], .nopFA), ([0xFB, 0x34, 0x12], .iscAby 0x1234),
     ([0xFC, 0x34, 0x12], .nopAbxFC 0x1234), ([0xFD, 0x34, 0x12], .sbcAbx 0x1234), ([0xFE, 0x34, 0x12], .incAbx 0x1234), ([0xFF, 0x34, 0x12], .iscAbx 0x1234)] = true := by decide

/-! ### One step of each instruction (95_test_vectors.md, sections 6 to 9) -/

/-- ADC: vectors AL1, AL2, AL3, AL4, AL5, AL6, AL7, AL8, AL9. -/
theorem test_adc : allGive
    [((start 0x50 0x00 0x00 0xFD 0x0200 0x00 [(0x0200, 0x69), (0x0201, 0x50)]),
      (want 0xA0 0x00 0x00 0xFD 0x0202 0xC0 2 [])),
     ((start 0xFF 0x00 0x00 0xFD 0x0200 0x00 [(0x0200, 0x69), (0x0201, 0x01)]),
      (want 0x00 0x00 0x00 0xFD 0x0202 0x03 2 [])),
     ((start 0x00 0x00 0x00 0xFD 0x0200 0x01 [(0x0200, 0x69), (0x0201, 0x7F)]),
      (want 0x80 0x00 0x00 0xFD 0x0202 0xC0 2 [])),
     ((start 0x80 0x00 0x00 0xFD 0x0200 0x00 [(0x0200, 0x69), (0x0201, 0x80)]),
      (want 0x00 0x00 0x00 0xFD 0x0202 0x43 2 [])),
     ((start 0x58 0x00 0x00 0xFD 0x0200 0x09 [(0x0200, 0x69), (0x0201, 0x46)]),
      (want 0x05 0x00 0x00 0xFD 0x0202 0xC9 2 [])),
     ((start 0x99 0x00 0x00 0xFD 0x0200 0x08 [(0x0200, 0x69), (0x0201, 0x01)]),
      (want 0x00 0x00 0x00 0xFD 0x0202 0x89 2 [])),
     ((start 0x79 0x00 0x00 0xFD 0x0200 0x09 [(0x0200, 0x69), (0x0201, 0x00)]),
      (want 0x80 0x00 0x00 0xFD 0x0202 0xC8 2 [])),
     ((start 0x0F 0x00 0x00 0xFD 0x0200 0x08 [(0x0200, 0x69), (0x0201, 0x0F)]),
      (want 0x14 0x00 0x00 0xFD 0x0202 0x08 2 [])),
     ((start 0x34 0x00 0x00 0xFD 0x0200 0x08 [(0x0200, 0x69), (0x0201, 0x12)]),
      (want 0x46 0x00 0x00 0xFD 0x0202 0x08 2 []))] = true := by decide

/-- ALR: vectors UD16. -/
theorem test_alr : allGive
    [((start 0xFF 0x00 0x00 0xFD 0x0200 0x00 [(0x0200, 0x4B), (0x0201, 0x03)]),
      (want 0x01 0x00 0x00 0xFD 0x0202 0x01 2 []))] = true := by decide

/-- ANC: vectors UD14, UD15. -/
theorem test_anc : allGive
    [((start 0x80 0x00 0x00 0xFD 0x0200 0x00 [(0x0200, 0x0B), (0x0201, 0xFF)]),
      (want 0x80 0x00 0x00 0xFD 0x0202 0x81 2 [])),
     ((start 0xFF 0x00 0x00 0xFD 0x0200 0x01 [(0x0200, 0x2B), (0x0201, 0x7F)]),
      (want 0x7F 0x00 0x00 0xFD 0x0202 0x00 2 []))] = true := by decide

/-- AND: vectors AL18. -/
theorem test_and : allGive
    [((start 0xF0 0x00 0x00 0xFD 0x0200 0x00 [(0x0200, 0x29), (0x0201, 0x0F)]),
      (want 0x00 0x00 0x00 0xFD 0x0202 0x02 2 []))] = true := by decide

/-- ARR: vectors UD17, UD18, UD19, UD20, UD21, UD22, UD23, UD24, UD25. -/
theorem test_arr : allGive
    [((start 0xFF 0x00 0x00 0xFD 0x0200 0x01 [(0x0200, 0x6B), (0x0201, 0xFF)]),
      (want 0xFF 0x00 0x00 0xFD 0x0202 0x81 2 [])),
     ((start 0xFF 0x00 0x00 0xFD 0x0200 0x00 [(0x0200, 0x6B), (0x0201, 0x80)]),
      (want 0x40 0x00 0x00 0xFD 0x0202 0x41 2 [])),
     ((start 0x40 0x00 0x00 0xFD 0x0200 0x00 [(0x0200, 0x6B), (0x0201, 0xFF)]),
      (want 0x20 0x00 0x00 0xFD 0x0202 0x40 2 [])),
     ((start 0x00 0x00 0x00 0xFD 0x0200 0x00 [(0x0200, 0x6B), (0x0201, 0x00)]),
      (want 0x00 0x00 0x00 0xFD 0x0202 0x02 2 [])),
     ((start 0xFF 0x00 0x00 0xFD 0x0200 0x09 [(0x0200, 0x6B), (0x0201, 0xFF)]),
      (want 0x55 0x00 0x00 0xFD 0x0202 0x89 2 [])),
     ((start 0x99 0x00 0x00 0xFD 0x0200 0x08 [(0x0200, 0x6B), (0x0201, 0xFF)]),
      (want 0xA2 0x00 0x00 0xFD 0x0202 0x49 2 [])),
     ((start 0x05 0x00 0x00 0xFD 0x0200 0x08 [(0x0200, 0x6B), (0x0201, 0xFF)]),
      (want 0x08 0x00 0x00 0xFD 0x0202 0x08 2 [])),
     ((start 0x50 0x00 0x00 0xFD 0x0200 0x08 [(0x0200, 0x6B), (0x0201, 0xFF)]),
      (want 0x88 0x00 0x00 0xFD 0x0202 0x49 2 [])),
     ((start 0xAA 0x00 0x00 0xFD 0x0200 0x09 [(0x0200, 0x6B), (0x0201, 0xFF)]),
      (want 0x3B 0x00 0x00 0xFD 0x0202 0xC9 2 []))] = true := by decide

/-- ASL: vectors AL34, AL35. -/
theorem test_asl : allGive
    [((start 0x80 0x00 0x00 0xFD 0x0200 0x00 [(0x0200, 0x0A)]),
      (want 0x00 0x00 0x00 0xFD 0x0201 0x03 2 [])),
     ((start 0x00 0x00 0x00 0xFD 0x0200 0x00 [(0x0010, 0x41), (0x0200, 0x06), (0x0201, 0x10)]),
      (want 0x00 0x00 0x00 0xFD 0x0202 0x80 5 [(0x0010, 0x82)]))] = true := by decide

/-- BCC: vectors CT13. -/
theorem test_bcc : allGive
    [((start 0x00 0x00 0x00 0xFD 0x0200 0x00 [(0x0200, 0x90), (0x0201, 0xFE)]),
      (want 0x00 0x00 0x00 0xFD 0x0200 0x00 3 []))] = true := by decide

/-- BCS: vectors CT14. -/
theorem test_bcs : allGive
    [((start 0x00 0x00 0x00 0xFD 0x0200 0x01 [(0x0200, 0xB0), (0x0201, 0x05)]),
      (want 0x00 0x00 0x00 0xFD 0x0207 0x01 3 []))] = true := by decide

/-- BEQ: vectors CT16, CT17. -/
theorem test_beq : allGive
    [((start 0x00 0x00 0x00 0xFD 0x0200 0x02 [(0x0200, 0xF0), (0x0201, 0x00)]),
      (want 0x00 0x00 0x00 0xFD 0x0202 0x02 3 [])),
     ((start 0x00 0x00 0x00 0xFD 0x0200 0x00 [(0x0200, 0xF0), (0x0201, 0x00)]),
      (want 0x00 0x00 0x00 0xFD 0x0202 0x00 2 []))] = true := by decide

/-- BIT: vectors AL26, AL27. -/
theorem test_bit : allGive
    [((start 0x01 0x00 0x00 0xFD 0x0200 0x00 [(0x0010, 0xC0), (0x0200, 0x24), (0x0201, 0x10)]),
      (want 0x01 0x00 0x00 0xFD 0x0202 0xC2 3 [])),
     ((start 0x40 0x00 0x00 0xFD 0x0200 0x00 [(0x0200, 0x2C), (0x0201, 0x00), (0x0202, 0x10), (0x1000, 0x40)]),
      (want 0x40 0x00 0x00 0xFD 0x0203 0x40 4 []))] = true := by decide

/-- BMI: vectors CT10. -/
theorem test_bmi : allGive
    [((start 0x00 0x00 0x00 0xFD 0x0200 0x00 [(0x0200, 0x30), (0x0201, 0x02)]),
      (want 0x00 0x00 0x00 0xFD 0x0202 0x00 2 []))] = true := by decide

/-- BNE: vectors CT15. -/
theorem test_bne : allGive
    [((start 0x00 0x00 0x00 0xFD 0x0200 0x00 [(0x0200, 0xD0), (0x0201, 0xFB)]),
      (want 0x00 0x00 0x00 0xFD 0x01FD 0x00 4 []))] = true := by decide

/-- BPL: vectors CT8, CT9. -/
theorem test_bpl : allGive
    [((start 0x00 0x00 0x00 0xFD 0x0200 0x00 [(0x0200, 0x10), (0x0201, 0x02)]),
      (want 0x00 0x00 0x00 0xFD 0x0204 0x00 3 [])),
     ((start 0x00 0x00 0x00 0xFD 0x0200 0x80 [(0x0200, 0x10), (0x0201, 0x02)]),
      (want 0x00 0x00 0x00 0xFD 0x0202 0x80 2 []))] = true := by decide

/-- BRK: vectors CT7. -/
theorem test_brk : allGive
    [((start 0x00 0x00 0x00 0xFF 0x0200 0x81 [(0x0200, 0x00), (0x0201, 0xEA), (0xFFFE, 0x00), (0xFFFF, 0x80)]),
      (want 0x00 0x00 0x00 0xFC 0x8000 0x85 7 [(0x01FD, 0xB1), (0x01FE, 0x02), (0x01FF, 0x02)]))] = true := by decide

/-- BVC: vectors CT11. -/
theorem test_bvc : allGive
    [((start 0x00 0x00 0x00 0xFD 0x0200 0x00 [(0x0200, 0x50), (0x0201, 0x80)]),
      (want 0x00 0x00 0x00 0xFD 0x0182 0x00 4 []))] = true := by decide

/-- BVS: vectors CT12. -/
theorem test_bvs : allGive
    [((start 0x00 0x00 0x00 0xFD 0x0200 0x40 [(0x0200, 0x70), (0x0201, 0x7F)]),
      (want 0x00 0x00 0x00 0xFD 0x0281 0x40 3 []))] = true := by decide

/-- CLC: vectors AL40. -/
theorem test_clc : allGive
    [((start 0x00 0x00 0x00 0xFD 0x0200 0x01 [(0x0200, 0x18)]),
      (want 0x00 0x00 0x00 0xFD 0x0201 0x00 2 []))] = true := by decide

/-- CLD: vectors AL44. -/
theorem test_cld : allGive
    [((start 0x00 0x00 0x00 0xFD 0x0200 0x08 [(0x0200, 0xD8)]),
      (want 0x00 0x00 0x00 0xFD 0x0201 0x00 2 []))] = true := by decide

/-- CLI: vectors AL42. -/
theorem test_cli : allGive
    [((start 0x00 0x00 0x00 0xFD 0x0200 0x04 [(0x0200, 0x58)]),
      (want 0x00 0x00 0x00 0xFD 0x0201 0x00 2 []))] = true := by decide

/-- CLV: vectors AL46. -/
theorem test_clv : allGive
    [((start 0x00 0x00 0x00 0xFD 0x0200 0x40 [(0x0200, 0xB8)]),
      (want 0x00 0x00 0x00 0xFD 0x0201 0x00 2 []))] = true := by decide

/-- CMP: vectors AL21, AL22, AL23. -/
theorem test_cmp : allGive
    [((start 0x10 0x00 0x00 0xFD 0x0200 0x00 [(0x0200, 0xC9), (0x0201, 0x10)]),
      (want 0x10 0x00 0x00 0xFD 0x0202 0x03 2 [])),
     ((start 0x10 0x00 0x00 0xFD 0x0200 0x00 [(0x0200, 0xC9), (0x0201, 0x20)]),
      (want 0x10 0x00 0x00 0xFD 0x0202 0x80 2 [])),
     ((start 0x80 0x00 0x00 0xFD 0x0200 0x00 [(0x0200, 0xC9), (0x0201, 0x01)]),
      (want 0x80 0x00 0x00 0xFD 0x0202 0x01 2 []))] = true := by decide

/-- CPX: vectors AL24. -/
theorem test_cpx : allGive
    [((start 0x00 0x00 0x00 0xFD 0x0200 0x00 [(0x0200, 0xE0), (0x0201, 0xFF)]),
      (want 0x00 0x00 0x00 0xFD 0x0202 0x00 2 []))] = true := by decide

/-- CPY: vectors AL25. -/
theorem test_cpy : allGive
    [((start 0x00 0x00 0x80 0xFD 0x0200 0x00 [(0x0200, 0xC0), (0x0201, 0x00)]),
      (want 0x00 0x00 0x80 0xFD 0x0202 0x81 2 []))] = true := by decide

/-- DCP: vectors UD10, UD11, UD13. -/
theorem test_dcp : allGive
    [((start 0x00 0x00 0x00 0xFD 0x0200 0x00 [(0x0010, 0x01), (0x0200, 0xC7), (0x0201, 0x10)]),
      (want 0x00 0x00 0x00 0xFD 0x0202 0x03 5 [(0x0010, 0x00)])),
     ((start 0x05 0x00 0x00 0xFD 0x0200 0x00 [(0x0010, 0x00), (0x0200, 0xC7), (0x0201, 0x10)]),
      (want 0x05 0x00 0x00 0xFD 0x0202 0x00 5 [(0x0010, 0xFF)])),
     ((start 0x00 0x00 0x01 0xFD 0x0200 0x00 [(0x0200, 0xDB), (0x0201, 0xFF), (0x0202, 0x12), (0x1300, 0x01)]),
      (want 0x00 0x00 0x01 0xFD 0x0203 0x03 7 [(0x1300, 0x00)]))] = true := by decide

/-- DEC: vectors AL29. -/
theorem test_dec : allGive
    [((start 0x00 0x00 0x00 0xFD 0x0200 0x00 [(0x0200, 0xCE), (0x0201, 0x00), (0x0202, 0x10), (0x1000, 0x00)]),
      (want 0x00 0x00 0x00 0xFD 0x0203 0x80 6 [(0x1000, 0xFF)]))] = true := by decide

/-- DEX: vectors AL32. -/
theorem test_dex : allGive
    [((start 0x00 0x01 0x00 0xFD 0x0200 0x00 [(0x0200, 0xCA)]),
      (want 0x00 0x00 0x00 0xFD 0x0201 0x02 2 []))] = true := by decide

/-- DEY: vectors AL33. -/
theorem test_dey : allGive
    [((start 0x00 0x00 0x00 0xFD 0x0200 0x00 [(0x0200, 0x88)]),
      (want 0x00 0x00 0xFF 0xFD 0x0201 0x80 2 []))] = true := by decide

/-- EOR: vectors AL20. -/
theorem test_eor : allGive
    [((start 0xFF 0x00 0x00 0xFD 0x0200 0x00 [(0x0200, 0x49), (0x0201, 0xFF)]),
      (want 0x00 0x00 0x00 0xFD 0x0202 0x02 2 []))] = true := by decide

/-- INC: vectors AL28. -/
theorem test_inc : allGive
    [((start 0x00 0x00 0x00 0xFD 0x0200 0x00 [(0x0010, 0xFF), (0x0200, 0xE6), (0x0201, 0x10)]),
      (want 0x00 0x00 0x00 0xFD 0x0202 0x02 5 [(0x0010, 0x00)]))] = true := by decide

/-- INX: vectors AL30. -/
theorem test_inx : allGive
    [((start 0x00 0xFF 0x00 0xFD 0x0200 0x00 [(0x0200, 0xE8)]),
      (want 0x00 0x00 0x00 0xFD 0x0201 0x02 2 []))] = true := by decide

/-- INY: vectors AL31. -/
theorem test_iny : allGive
    [((start 0x00 0x00 0x7F 0xFD 0x0200 0x00 [(0x0200, 0xC8)]),
      (want 0x00 0x00 0x80 0xFD 0x0201 0x80 2 []))] = true := by decide

/-- ISC: vectors UD12. -/
theorem test_isc : allGive
    [((start 0x10 0x00 0x00 0xFD 0x0200 0x01 [(0x0010, 0x0F), (0x0200, 0xE7), (0x0201, 0x10)]),
      (want 0x00 0x00 0x00 0xFD 0x0202 0x03 5 [(0x0010, 0x10)]))] = true := by decide

/-- JMP: vectors CT1, CT2. -/
theorem test_jmp : allGive
    [((start 0x00 0x00 0x00 0xFD 0x0200 0x00 [(0x0200, 0x4C), (0x0201, 0x34), (0x0202, 0x12)]),
      (want 0x00 0x00 0x00 0xFD 0x1234 0x00 3 [])),
     ((start 0x00 0x00 0x00 0xFD 0x0200 0x00 [(0x0200, 0x6C), (0x0201, 0xFF), (0x0202, 0x12), (0x1200, 0xC0), (0x12FF, 0x00), (0x1300, 0x80)]),
      (want 0x00 0x00 0x00 0xFD 0xC000 0x00 5 []))] = true := by decide

/-- JSR: vectors CT3. -/
theorem test_jsr : allGive
    [((start 0x00 0x00 0x00 0xFF 0x0200 0x00 [(0x0200, 0x20), (0x0201, 0x00), (0x0202, 0x10)]),
      (want 0x00 0x00 0x00 0xFD 0x1000 0x00 6 [(0x01FE, 0x02), (0x01FF, 0x02)]))] = true := by decide

/-- LAS: vectors UD37, UD38. -/
theorem test_las : allGive
    [((start 0x00 0x00 0x00 0x3F 0x0200 0x00 [(0x0200, 0xBB), (0x0201, 0x00), (0x0202, 0x10), (0x1000, 0xF0)]),
      (want 0x30 0x30 0x00 0x30 0x0203 0x00 4 [])),
     ((start 0x00 0x00 0x00 0xFF 0x0200 0x00 [(0x0200, 0xBB), (0x0201, 0x00), (0x0202, 0x10), (0x1000, 0x00)]),
      (want 0x00 0x00 0x00 0x00 0x0203 0x02 4 []))] = true := by decide

/-- LAX: vectors UD8, UD9. -/
theorem test_lax : allGive
    [((start 0x00 0x00 0x00 0xFD 0x0200 0x00 [(0x0010, 0x80), (0x0200, 0xA7), (0x0201, 0x10)]),
      (want 0x80 0x80 0x00 0xFD 0x0202 0x80 3 [])),
     ((start 0x00 0x00 0x01 0xFD 0x0200 0x00 [(0x0200, 0xBF), (0x0201, 0xFF), (0x0202, 0x12), (0x1300, 0x00)]),
      (want 0x00 0x00 0x01 0xFD 0x0203 0x02 5 []))] = true := by decide

/-- LDA: vectors LS1, LS2, LS3, LS4, LS5, LS6, LS7, LS8, LS9. -/
theorem test_lda : allGive
    [((start 0x55 0x00 0x00 0xFD 0x0200 0x00 [(0x0200, 0xA9), (0x0201, 0x00)]),
      (want 0x00 0x00 0x00 0xFD 0x0202 0x02 2 [])),
     ((start 0x00 0x00 0x00 0xFD 0x0200 0x00 [(0x0200, 0xA9), (0x0201, 0x80)]),
      (want 0x80 0x00 0x00 0xFD 0x0202 0x80 2 [])),
     ((start 0x00 0x00 0x00 0xFD 0x0200 0x00 [(0x0010, 0x7F), (0x0200, 0xA5), (0x0201, 0x10)]),
      (want 0x7F 0x00 0x00 0xFD 0x0202 0x00 3 [])),
     ((start 0x00 0xF5 0x00 0xFD 0x0200 0x00 [(0x0005, 0x42), (0x0200, 0xB5), (0x0201, 0x10)]),
      (want 0x42 0xF5 0x00 0xFD 0x0202 0x00 4 [])),
     ((start 0x00 0x20 0x00 0xFD 0x0200 0x00 [(0x0200, 0xBD), (0x0201, 0xF0), (0x0202, 0x12), (0x1310, 0x99)]),
      (want 0x99 0x20 0x00 0xFD 0x0203 0x80 5 [])),
     ((start 0x00 0x00 0x05 0xFD 0x0200 0x00 [(0x0200, 0xB9), (0x0201, 0x00), (0x0202, 0x12), (0x1205, 0x01)]),
      (want 0x01 0x00 0x05 0xFD 0x0203 0x00 4 [])),
     ((start 0x00 0x01 0x00 0xFD 0x0200 0x00 [(0x0000, 0x12), (0x00FF, 0x34), (0x0200, 0xA1), (0x0201, 0xFE), (0x1234, 0xC3)]),
      (want 0xC3 0x01 0x00 0xFD 0x0202 0x80 6 [])),
     ((start 0x00 0x00 0x34 0xFD 0x0200 0x00 [(0x0000, 0x12), (0x00FF, 0x00), (0x0200, 0xB1), (0x0201, 0xFF), (0x1234, 0x00)]),
      (want 0x00 0x00 0x34 0xFD 0x0202 0x02 5 [])),
     ((start 0x00 0x00 0xFF 0xFD 0x0200 0x00 [(0x0040, 0x01), (0x0041, 0x12), (0x0200, 0xB1), (0x0201, 0x40), (0x1300, 0x5A)]),
      (want 0x5A 0x00 0xFF 0xFD 0x0202 0x00 6 []))] = true := by decide

/-- LDX: vectors LS10. -/
theorem test_ldx : allGive
    [((start 0x00 0x00 0x02 0xFD 0x0200 0x00 [(0x0001, 0x80), (0x0200, 0xB6), (0x0201, 0xFF)]),
      (want 0x00 0x80 0x02 0xFD 0x0202 0x80 4 []))] = true := by decide

/-- LDY: vectors LS11. -/
theorem test_ldy : allGive
    [((start 0x00 0x00 0x00 0xFD 0x0200 0x00 [(0x0200, 0xAC), (0x0201, 0x00), (0x0202, 0x10), (0x1000, 0x00)]),
      (want 0x00 0x00 0x00 0xFD 0x0203 0x02 4 []))] = true := by decide

/-- LSR: vectors AL36. -/
theorem test_lsr : allGive
    [((start 0x01 0x00 0x00 0xFD 0x0200 0x00 [(0x0200, 0x4A)]),
      (want 0x00 0x00 0x00 0xFD 0x0201 0x03 2 []))] = true := by decide

/-- NOP: vectors AL47, UD39, UD40, UD41, UD42, UD43, UD44, UD45. -/
theorem test_nop : allGive
    [((start 0x00 0x00 0x00 0xFD 0x0200 0x82 [(0x0200, 0xEA)]),
      (want 0x00 0x00 0x00 0xFD 0x0201 0x82 2 [])),
     ((start 0x12 0x00 0x00 0xFD 0x0200 0x82 [(0x0200, 0x1A)]),
      (want 0x12 0x00 0x00 0xFD 0x0201 0x82 2 [])),
     ((start 0x00 0x00 0x00 0xFD 0x0200 0x00 [(0x0200, 0x80), (0x0201, 0xFF)]),
      (want 0x00 0x00 0x00 0xFD 0x0202 0x00 2 [])),
     ((start 0x00 0x00 0x00 0xFD 0x0200 0x00 [(0x0200, 0x04), (0x0201, 0x10)]),
      (want 0x00 0x00 0x00 0xFD 0x0202 0x00 3 [])),
     ((start 0x00 0x00 0x00 0xFD 0x0200 0x00 [(0x0200, 0x14), (0x0201, 0x10)]),
      (want 0x00 0x00 0x00 0xFD 0x0202 0x00 4 [])),
     ((start 0x00 0x00 0x00 0xFD 0x0200 0x00 [(0x0200, 0x0C), (0x0201, 0x00), (0x0202, 0x10)]),
      (want 0x00 0x00 0x00 0xFD 0x0203 0x00 4 [])),
     ((start 0x00 0x01 0x00 0xFD 0x0200 0x00 [(0x0200, 0x1C), (0x0201, 0xFF), (0x0202, 0x10)]),
      (want 0x00 0x01 0x00 0xFD 0x0203 0x00 5 [])),
     ((start 0x00 0x01 0x00 0xFD 0x0200 0x00 [(0x0200, 0x1C), (0x0201, 0x00), (0x0202, 0x10)]),
      (want 0x00 0x01 0x00 0xFD 0x0203 0x00 4 []))] = true := by decide

/-- ORA: vectors AL19. -/
theorem test_ora : allGive
    [((start 0x01 0x00 0x00 0xFD 0x0200 0x00 [(0x0200, 0x09), (0x0201, 0x80)]),
      (want 0x81 0x00 0x00 0xFD 0x0202 0x80 2 []))] = true := by decide

/-- PHA: vectors LS21. -/
theorem test_pha : allGive
    [((start 0x3C 0x00 0x00 0x00 0x0200 0x00 [(0x0200, 0x48)]),
      (want 0x3C 0x00 0x00 0xFF 0x0201 0x00 3 [(0x0100, 0x3C)]))] = true := by decide

/-- PHP: vectors LS22. -/
theorem test_php : allGive
    [((start 0x00 0x00 0x00 0xFD 0x0200 0x81 [(0x0200, 0x08)]),
      (want 0x00 0x00 0x00 0xFC 0x0201 0x81 3 [(0x01FD, 0xB1)]))] = true := by decide

/-- PLA: vectors LS23. -/
theorem test_pla : allGive
    [((start 0x00 0x00 0x00 0xFF 0x0200 0x00 [(0x0100, 0x00), (0x0200, 0x68)]),
      (want 0x00 0x00 0x00 0x00 0x0201 0x02 4 []))] = true := by decide

/-- PLP: vectors LS24, LS25. -/
theorem test_plp : allGive
    [((start 0x00 0x00 0x00 0xFC 0x0200 0x00 [(0x01FD, 0xFF), (0x0200, 0x28)]),
      (want 0x00 0x00 0x00 0xFD 0x0201 0xCF 4 [])),
     ((start 0x00 0x00 0x00 0xFC 0x0200 0xCF [(0x01FD, 0x30), (0x0200, 0x28)]),
      (want 0x00 0x00 0x00 0xFD 0x0201 0x00 4 []))] = true := by decide

/-- RLA: vectors UD2. -/
theorem test_rla : allGive
    [((start 0xFF 0x00 0x00 0xFD 0x0200 0x01 [(0x0010, 0x80), (0x0200, 0x27), (0x0201, 0x10)]),
      (want 0x01 0x00 0x00 0xFD 0x0202 0x01 5 [(0x0010, 0x01)]))] = true := by decide

/-- ROL: vectors AL37. -/
theorem test_rol : allGive
    [((start 0x80 0x00 0x00 0xFD 0x0200 0x01 [(0x0200, 0x2A)]),
      (want 0x01 0x00 0x00 0xFD 0x0201 0x01 2 []))] = true := by decide

/-- ROR: vectors AL38, AL39. -/
theorem test_ror : allGive
    [((start 0x01 0x00 0x00 0xFD 0x0200 0x01 [(0x0200, 0x6A)]),
      (want 0x80 0x00 0x00 0xFD 0x0201 0x81 2 [])),
     ((start 0x00 0x01 0x00 0xFD 0x0200 0x00 [(0x0200, 0x7E), (0x0201, 0xFF), (0x0202, 0x10), (0x1100, 0x02)]),
      (want 0x00 0x01 0x00 0xFD 0x0203 0x00 7 [(0x1100, 0x01)]))] = true := by decide

/-- RRA: vectors UD4, UD5. -/
theorem test_rra : allGive
    [((start 0x10 0x00 0x00 0xFD 0x0200 0x00 [(0x0010, 0x03), (0x0200, 0x67), (0x0201, 0x10)]),
      (want 0x12 0x00 0x00 0xFD 0x0202 0x00 5 [(0x0010, 0x01)])),
     ((start 0x09 0x00 0x00 0xFD 0x0200 0x08 [(0x0010, 0x02), (0x0200, 0x67), (0x0201, 0x10)]),
      (want 0x10 0x00 0x00 0xFD 0x0202 0x08 5 [(0x0010, 0x01)]))] = true := by decide

/-- RTI: vectors CT6. -/
theorem test_rti : allGive
    [((start 0x00 0x00 0x00 0xFC 0x0200 0xCF [(0x01FD, 0x20), (0x01FE, 0x00), (0x01FF, 0x03), (0x0200, 0x40)]),
      (want 0x00 0x00 0x00 0xFF 0x0300 0x00 6 []))] = true := by decide

/-- RTS: vectors CT4, CT5. -/
theorem test_rts : allGive
    [((start 0x00 0x00 0x00 0xFD 0x0200 0x00 [(0x01FE, 0x02), (0x01FF, 0x02), (0x0200, 0x60)]),
      (want 0x00 0x00 0x00 0xFF 0x0203 0x00 6 [])),
     ((start 0x00 0x00 0x00 0xFD 0x0200 0x00 [(0x01FE, 0xFF), (0x01FF, 0xFF), (0x0200, 0x60)]),
      (want 0x00 0x00 0x00 0xFF 0x0000 0x00 6 []))] = true := by decide

/-- SAX: vectors UD6, UD7. -/
theorem test_sax : allGive
    [((start 0xF0 0x3C 0x00 0xFD 0x0200 0x00 [(0x0200, 0x87), (0x0201, 0x10)]),
      (want 0xF0 0x3C 0x00 0xFD 0x0202 0x00 3 [(0x0010, 0x30)])),
     ((start 0xFF 0x0F 0xF5 0xFD 0x0200 0x00 [(0x0200, 0x97), (0x0201, 0x10)]),
      (want 0xFF 0x0F 0xF5 0xFD 0x0202 0x00 4 [(0x0005, 0x0F)]))] = true := by decide

/-- SBC: vectors AL10, AL11, AL12, AL13, AL14, AL15, AL16, AL17. -/
theorem test_sbc : allGive
    [((start 0x00 0x00 0x00 0xFD 0x0200 0x01 [(0x0200, 0xE9), (0x0201, 0x01)]),
      (want 0xFF 0x00 0x00 0xFD 0x0202 0x80 2 [])),
     ((start 0x80 0x00 0x00 0xFD 0x0200 0x01 [(0x0200, 0xE9), (0x0201, 0x01)]),
      (want 0x7F 0x00 0x00 0xFD 0x0202 0x41 2 [])),
     ((start 0x50 0x00 0x00 0xFD 0x0200 0x01 [(0x0200, 0xE9), (0x0201, 0xF0)]),
      (want 0x60 0x00 0x00 0xFD 0x0202 0x00 2 [])),
     ((start 0x00 0x00 0x00 0xFD 0x0200 0x00 [(0x0200, 0xE9), (0x0201, 0x00)]),
      (want 0xFF 0x00 0x00 0xFD 0x0202 0x80 2 [])),
     ((start 0x12 0x00 0x00 0xFD 0x0200 0x09 [(0x0200, 0xE9), (0x0201, 0x21)]),
      (want 0x91 0x00 0x00 0xFD 0x0202 0x88 2 [])),
     ((start 0x00 0x00 0x00 0xFD 0x0200 0x09 [(0x0200, 0xE9), (0x0201, 0x01)]),
      (want 0x99 0x00 0x00 0xFD 0x0202 0x88 2 [])),
     ((start 0x46 0x00 0x00 0xFD 0x0200 0x09 [(0x0200, 0xE9), (0x0201, 0x12)]),
      (want 0x34 0x00 0x00 0xFD 0x0202 0x09 2 [])),
     ((start 0x40 0x00 0x00 0xFD 0x0200 0x09 [(0x0200, 0xE9), (0x0201, 0x13)]),
      (want 0x27 0x00 0x00 0xFD 0x0202 0x09 2 []))] = true := by decide

/-- SBX: vectors UD30, UD31. -/
theorem test_sbx : allGive
    [((start 0xFF 0x0F 0x00 0xFD 0x0200 0x00 [(0x0200, 0xCB), (0x0201, 0x01)]),
      (want 0xFF 0x0E 0x00 0xFD 0x0202 0x01 2 [])),
     ((start 0x00 0xFF 0x00 0xFD 0x0200 0x00 [(0x0200, 0xCB), (0x0201, 0x01)]),
      (want 0x00 0xFF 0x00 0xFD 0x0202 0x80 2 []))] = true := by decide

/-- SEC: vectors AL41. -/
theorem test_sec : allGive
    [((start 0x00 0x00 0x00 0xFD 0x0200 0x00 [(0x0200, 0x38)]),
      (want 0x00 0x00 0x00 0xFD 0x0201 0x01 2 []))] = true := by decide

/-- SED: vectors AL45. -/
theorem test_sed : allGive
    [((start 0x00 0x00 0x00 0xFD 0x0200 0x00 [(0x0200, 0xF8)]),
      (want 0x00 0x00 0x00 0xFD 0x0201 0x08 2 []))] = true := by decide

/-- SEI: vectors AL43. -/
theorem test_sei : allGive
    [((start 0x00 0x00 0x00 0xFD 0x0200 0x00 [(0x0200, 0x78)]),
      (want 0x00 0x00 0x00 0xFD 0x0201 0x04 2 []))] = true := by decide

/-- SHA: vectors UD33. -/
theorem test_sha : allGive
    [((start 0xFF 0xFF 0x05 0xFD 0x0200 0x00 [(0x0200, 0x9F), (0x0201, 0x00), (0x0202, 0x10)]),
      (want 0xFF 0xFF 0x05 0xFD 0x0203 0x00 5 [(0x1005, 0x11)]))] = true := by decide

/-- SHX: vectors UD34. -/
theorem test_shx : allGive
    [((start 0x00 0x0F 0x20 0xFD 0x0200 0x00 [(0x0200, 0x9E), (0x0201, 0xF0), (0x0202, 0x12)]),
      (want 0x00 0x0F 0x20 0xFD 0x0203 0x00 5 [(0x0310, 0x03)]))] = true := by decide

/-- SHY: vectors UD35. -/
theorem test_shy : allGive
    [((start 0x00 0x05 0xFF 0xFD 0x0200 0x00 [(0x0200, 0x9C), (0x0201, 0x00), (0x0202, 0x10)]),
      (want 0x00 0x05 0xFF 0xFD 0x0203 0x00 5 [(0x1005, 0x11)]))] = true := by decide

/-- SLO: vectors UD1. -/
theorem test_slo : allGive
    [((start 0x01 0x00 0x00 0xFD 0x0200 0x00 [(0x0010, 0x81), (0x0200, 0x07), (0x0201, 0x10)]),
      (want 0x03 0x00 0x00 0xFD 0x0202 0x01 5 [(0x0010, 0x02)]))] = true := by decide

/-- SRE: vectors UD3. -/
theorem test_sre : allGive
    [((start 0xFF 0x00 0x00 0xFD 0x0200 0x00 [(0x0010, 0x03), (0x0200, 0x47), (0x0201, 0x10)]),
      (want 0xFE 0x00 0x00 0xFD 0x0202 0x81 5 [(0x0010, 0x01)]))] = true := by decide

/-- STA: vectors LS12. -/
theorem test_sta : allGive
    [((start 0x77 0x01 0x00 0xFD 0x0200 0x00 [(0x0200, 0x9D), (0x0201, 0x00), (0x0202, 0x10)]),
      (want 0x77 0x01 0x00 0xFD 0x0203 0x00 5 [(0x1001, 0x77)]))] = true := by decide

/-- STX: vectors LS13. -/
theorem test_stx : allGive
    [((start 0x00 0xAB 0x20 0xFD 0x0200 0x00 [(0x0200, 0x96), (0x0201, 0xF0)]),
      (want 0x00 0xAB 0x20 0xFD 0x0202 0x00 4 [(0x0010, 0xAB)]))] = true := by decide

/-- STY: vectors LS14. -/
theorem test_sty : allGive
    [((start 0x00 0x00 0x0E 0xFD 0x0200 0x00 [(0x0200, 0x8C), (0x0201, 0x34), (0x0202, 0x12)]),
      (want 0x00 0x00 0x0E 0xFD 0x0203 0x00 4 [(0x1234, 0x0E)]))] = true := by decide

/-- TAS: vectors UD36. -/
theorem test_tas : allGive
    [((start 0xF3 0x3F 0x01 0xFD 0x0200 0x00 [(0x0200, 0x9B), (0x0201, 0x00), (0x0202, 0x10)]),
      (want 0xF3 0x3F 0x01 0x33 0x0203 0x00 5 [(0x1001, 0x11)]))] = true := by decide

/-- TAX: vectors LS15. -/
theorem test_tax : allGive
    [((start 0x00 0x55 0x00 0xFD 0x0200 0x00 [(0x0200, 0xAA)]),
      (want 0x00 0x00 0x00 0xFD 0x0201 0x02 2 []))] = true := by decide

/-- TAY: vectors LS16. -/
theorem test_tay : allGive
    [((start 0xF0 0x00 0x00 0xFD 0x0200 0x00 [(0x0200, 0xA8)]),
      (want 0xF0 0x00 0xF0 0xFD 0x0201 0x80 2 []))] = true := by decide

/-- TSX: vectors LS19. -/
theorem test_tsx : allGive
    [((start 0x00 0x00 0x00 0x80 0x0200 0x00 [(0x0200, 0xBA)]),
      (want 0x00 0x80 0x00 0x80 0x0201 0x80 2 []))] = true := by decide

/-- TXA: vectors LS17. -/
theorem test_txa : allGive
    [((start 0x00 0x80 0x00 0xFD 0x0200 0x00 [(0x0200, 0x8A)]),
      (want 0x80 0x80 0x00 0xFD 0x0201 0x80 2 []))] = true := by decide

/-- TXS: vectors LS20. -/
theorem test_txs : allGive
    [((start 0x00 0x00 0x00 0xFD 0x0200 0x02 [(0x0200, 0x9A)]),
      (want 0x00 0x00 0x00 0x00 0x0201 0x02 2 []))] = true := by decide

/-- TYA: vectors LS18. -/
theorem test_tya : allGive
    [((start 0x12 0x00 0x00 0xFD 0x0200 0x00 [(0x0200, 0x98)]),
      (want 0x00 0x00 0x00 0xFD 0x0201 0x02 2 []))] = true := by decide

/-- USBC: vectors UD32. -/
theorem test_usbc : allGive
    [((start 0x00 0x00 0x00 0xFD 0x0200 0x01 [(0x0200, 0xEB), (0x0201, 0x01)]),
      (want 0xFF 0x00 0x00 0xFD 0x0202 0x80 2 []))] = true := by decide

/-! ### The bus trace of each sequence table (95_test_vectors.md, section 5) -/

/-- T1: IMP. -/
theorem test_trace_t1 : traceIs (start 0x00 0x00 0x00 0xFD 0x0200 0x00 [(0x0200, 0x18)])
    [(0x0200, .read, 0x18), (0x0201, .read, 0x00)] = true := by decide

/-- T2: ACC. -/
theorem test_trace_t2 : traceIs (start 0x01 0x00 0x00 0xFD 0x0200 0x00 [(0x0200, 0x0A)])
    [(0x0200, .read, 0x0A), (0x0201, .read, 0x00)] = true := by decide

/-- T3: IMM. -/
theorem test_trace_t3 : traceIs (start 0x00 0x00 0x00 0xFD 0x0200 0x00 [(0x0200, 0xA9), (0x0201, 0x42)])
    [(0x0200, .read, 0xA9), (0x0201, .read, 0x42)] = true := by decide

/-- T4: ZP R. -/
theorem test_trace_t4 : traceIs (start 0x00 0x00 0x00 0xFD 0x0200 0x00 [(0x0010, 0x11), (0x0200, 0xA5), (0x0201, 0x10)])
    [(0x0200, .read, 0xA5), (0x0201, .read, 0x10), (0x0010, .read, 0x11)] = true := by decide

/-- T5: ZP M. -/
theorem test_trace_t5 : traceIs (start 0x00 0x00 0x00 0xFD 0x0200 0x00 [(0x0010, 0x11), (0x0200, 0xE6), (0x0201, 0x10)])
    [(0x0200, .read, 0xE6), (0x0201, .read, 0x10), (0x0010, .read, 0x11), (0x0010, .write, 0x11), (0x0010, .write, 0x12)] = true := by decide

/-- T6: ZPX R, wrap. -/
theorem test_trace_t6 : traceIs (start 0x00 0x20 0x00 0xFD 0x0200 0x00 [(0x0010, 0x11), (0x0200, 0xB5), (0x0201, 0xF0)])
    [(0x0200, .read, 0xB5), (0x0201, .read, 0xF0), (0x00F0, .read, 0x00), (0x0010, .read, 0x11)] = true := by decide

/-- T7: ZPY W. -/
theorem test_trace_t7 : traceIs (start 0x00 0x22 0x01 0xFD 0x0200 0x00 [(0x0200, 0x96), (0x0201, 0x10)])
    [(0x0200, .read, 0x96), (0x0201, .read, 0x10), (0x0010, .read, 0x00), (0x0011, .write, 0x22)] = true := by decide

/-- T8: ABS W. -/
theorem test_trace_t8 : traceIs (start 0x55 0x00 0x00 0xFD 0x0200 0x00 [(0x0200, 0x8D), (0x0201, 0x34), (0x0202, 0x12)])
    [(0x0200, .read, 0x8D), (0x0201, .read, 0x34), (0x0202, .read, 0x12), (0x1234, .write, 0x55)] = true := by decide

/-- T9: ABX R, no cross. -/
theorem test_trace_t9 : traceIs (start 0x00 0x05 0x00 0xFD 0x0200 0x00 [(0x0200, 0xBD), (0x0201, 0x00), (0x0202, 0x12), (0x1205, 0x66)])
    [(0x0200, .read, 0xBD), (0x0201, .read, 0x00), (0x0202, .read, 0x12), (0x1205, .read, 0x66)] = true := by decide

/-- T10: ABX R, cross. -/
theorem test_trace_t10 : traceIs (start 0x00 0x20 0x00 0xFD 0x0200 0x00 [(0x0200, 0xBD), (0x0201, 0xF0), (0x0202, 0x12), (0x1310, 0x66)])
    [(0x0200, .read, 0xBD), (0x0201, .read, 0xF0), (0x0202, .read, 0x12), (0x1210, .read, 0x00), (0x1310, .read, 0x66)] = true := by decide

/-- T11: ABX W. -/
theorem test_trace_t11 : traceIs (start 0x77 0x05 0x00 0xFD 0x0200 0x00 [(0x0200, 0x9D), (0x0201, 0x00), (0x0202, 0x12)])
    [(0x0200, .read, 0x9D), (0x0201, .read, 0x00), (0x0202, .read, 0x12), (0x1205, .read, 0x00), (0x1205, .write, 0x77)] = true := by decide

/-- T12: ABX M. -/
theorem test_trace_t12 : traceIs (start 0x00 0x05 0x00 0xFD 0x0200 0x00 [(0x0200, 0xFE), (0x0201, 0x00), (0x0202, 0x12), (0x1205, 0x10)])
    [(0x0200, .read, 0xFE), (0x0201, .read, 0x00), (0x0202, .read, 0x12), (0x1205, .read, 0x10), (0x1205, .read, 0x10), (0x1205, .write, 0x10), (0x1205, .write, 0x11)] = true := by decide

/-- T13: ABY R, cross. -/
theorem test_trace_t13 : traceIs (start 0x00 0x00 0x01 0xFD 0x0200 0x00 [(0x0200, 0xB9), (0x0201, 0xFF), (0x0202, 0x12), (0x1300, 0x66)])
    [(0x0200, .read, 0xB9), (0x0201, .read, 0xFF), (0x0202, .read, 0x12), (0x1200, .read, 0x00), (0x1300, .read, 0x66)] = true := by decide

/-- T14: IZX R. -/
theorem test_trace_t14 : traceIs (start 0x00 0x04 0x00 0xFD 0x0200 0x00 [(0x0024, 0x00), (0x0025, 0x30), (0x0200, 0xA1), (0x0201, 0x20), (0x3000, 0x99)])
    [(0x0200, .read, 0xA1), (0x0201, .read, 0x20), (0x0020, .read, 0x00), (0x0024, .read, 0x00), (0x0025, .read, 0x30), (0x3000, .read, 0x99)] = true := by decide

/-- T15: IZY R, cross. -/
theorem test_trace_t15 : traceIs (start 0x00 0x00 0x10 0xFD 0x0200 0x00 [(0x0020, 0xF8), (0x0021, 0x30), (0x0200, 0xB1), (0x0201, 0x20), (0x3108, 0x99)])
    [(0x0200, .read, 0xB1), (0x0201, .read, 0x20), (0x0020, .read, 0xF8), (0x0021, .read, 0x30), (0x3008, .read, 0x00), (0x3108, .read, 0x99)] = true := by decide

/-- T16: IZY W. -/
theorem test_trace_t16 : traceIs (start 0x5A 0x00 0x01 0xFD 0x0200 0x00 [(0x0020, 0x00), (0x0021, 0x30), (0x0200, 0x91), (0x0201, 0x20)])
    [(0x0200, .read, 0x91), (0x0201, .read, 0x20), (0x0020, .read, 0x00), (0x0021, .read, 0x30), (0x3001, .read, 0x00), (0x3001, .write, 0x5A)] = true := by decide

/-- T17: IZY M (undocumented). -/
theorem test_trace_t17 : traceIs (start 0x00 0x00 0x01 0xFD 0x0200 0x00 [(0x0020, 0x00), (0x0021, 0x30), (0x0200, 0xD3), (0x0201, 0x20), (0x3001, 0x05)])
    [(0x0200, .read, 0xD3), (0x0201, .read, 0x20), (0x0020, .read, 0x00), (0x0021, .read, 0x30), (0x3001, .read, 0x05), (0x3001, .read, 0x05), (0x3001, .write, 0x05), (0x3001, .write, 0x04)] = true := by decide

/-- T18: REL not taken. -/
theorem test_trace_t18 : traceIs (start 0x00 0x00 0x00 0xFD 0x0200 0x02 [(0x0200, 0xD0), (0x0201, 0x10)])
    [(0x0200, .read, 0xD0), (0x0201, .read, 0x10)] = true := by decide

/-- T19: REL taken, same page. -/
theorem test_trace_t19 : traceIs (start 0x00 0x00 0x00 0xFD 0x0200 0x00 [(0x0200, 0xD0), (0x0201, 0x10)])
    [(0x0200, .read, 0xD0), (0x0201, .read, 0x10), (0x0202, .read, 0x00)] = true := by decide

/-- T20: REL taken, cross. -/
theorem test_trace_t20 : traceIs (start 0x00 0x00 0x00 0xFD 0x02F0 0x00 [(0x02F0, 0xD0), (0x02F1, 0x7F)])
    [(0x02F0, .read, 0xD0), (0x02F1, .read, 0x7F), (0x02F2, .read, 0x00), (0x0271, .read, 0x00)] = true := by decide

/-- T21: IND. -/
theorem test_trace_t21 : traceIs (start 0x00 0x00 0x00 0xFD 0x0200 0x00 [(0x0200, 0x6C), (0x0201, 0x00), (0x0202, 0x30), (0x3000, 0x34), (0x3001, 0x12)])
    [(0x0200, .read, 0x6C), (0x0201, .read, 0x00), (0x0202, .read, 0x30), (0x3000, .read, 0x34), (0x3001, .read, 0x12)] = true := by decide

/-- T22: PUSH (PHA). -/
theorem test_trace_t22 : traceIs (start 0xAB 0x00 0x00 0xFD 0x0200 0x00 [(0x0200, 0x48)])
    [(0x0200, .read, 0x48), (0x0201, .read, 0x00), (0x01FD, .write, 0xAB)] = true := by decide

/-- T23: PULL (PLA). -/
theorem test_trace_t23 : traceIs (start 0x00 0x00 0x00 0xFC 0x0200 0x00 [(0x01FD, 0xAB), (0x0200, 0x68)])
    [(0x0200, .read, 0x68), (0x0201, .read, 0x00), (0x01FC, .read, 0x00), (0x01FD, .read, 0xAB)] = true := by decide

/-- T24: JSR. -/
theorem test_trace_t24 : traceIs (start 0x00 0x00 0x00 0xFF 0x0200 0x00 [(0x0200, 0x20), (0x0201, 0x00), (0x0202, 0x10)])
    [(0x0200, .read, 0x20), (0x0201, .read, 0x00), (0x01FF, .read, 0x00), (0x01FF, .write, 0x02), (0x01FE, .write, 0x02), (0x0202, .read, 0x10)] = true := by decide

/-- T25: RTS. -/
theorem test_trace_t25 : traceIs (start 0x00 0x00 0x00 0xFD 0x0200 0x00 [(0x01FE, 0x02), (0x01FF, 0x10), (0x0200, 0x60)])
    [(0x0200, .read, 0x60), (0x0201, .read, 0x00), (0x01FD, .read, 0x00), (0x01FE, .read, 0x02), (0x01FF, .read, 0x10), (0x1002, .read, 0x00)] = true := by decide

/-- T26: RTI. -/
theorem test_trace_t26 : traceIs (start 0x00 0x00 0x00 0xFC 0x0200 0x00 [(0x01FD, 0x00), (0x01FE, 0x00), (0x01FF, 0x10), (0x0200, 0x40)])
    [(0x0200, .read, 0x40), (0x0201, .read, 0x00), (0x01FC, .read, 0x00), (0x01FD, .read, 0x00), (0x01FE, .read, 0x00), (0x01FF, .read, 0x10)] = true := by decide

/-- T27: BRK. -/
theorem test_trace_t27 : traceIs (start 0x00 0x00 0x00 0xFF 0x0200 0x00 [(0x0200, 0x00), (0x0201, 0xEA), (0xFFFE, 0x00), (0xFFFF, 0x80)])
    [(0x0200, .read, 0x00), (0x0201, .read, 0xEA), (0x01FF, .write, 0x02), (0x01FE, .write, 0x02), (0x01FD, .write, 0x30), (0xFFFE, .read, 0x00), (0xFFFF, .read, 0x80)] = true := by decide

/-- T28: JMP abs. -/
theorem test_trace_t28 : traceIs (start 0x00 0x00 0x00 0xFD 0x0200 0x00 [(0x0200, 0x4C), (0x0201, 0x00), (0x0202, 0x10)])
    [(0x0200, .read, 0x4C), (0x0201, .read, 0x00), (0x0202, .read, 0x10)] = true := by decide

/-- T29: JAM. -/
theorem test_trace_t29 : traceIs (start 0x00 0x00 0x00 0xFD 0x0200 0x00 [(0x0200, 0x02)])
    [(0x0200, .read, 0x02)] = true := by decide

/-- T30: SH* (SHX abs,Y), cross. -/
theorem test_trace_t30 : traceIs (start 0x00 0x0F 0x20 0xFD 0x0200 0x00 [(0x0200, 0x9E), (0x0201, 0xF0), (0x0202, 0x12)])
    [(0x0200, .read, 0x9E), (0x0201, .read, 0xF0), (0x0202, .read, 0x12), (0x1210, .read, 0x00), (0x0310, .write, 0x03)] = true := by decide

/-! ### ANE, LXA and JAM -/

/-- UD27: the result does not depend on the constant. -/
theorem test_ane_independent : (opAne 0x0F (start 0xFF 0x3C 0 0xFD 0x0200 0 [])).a = 0x0C := by
  show ((0xFF ||| Config.aneMagic) &&& 0x3C) &&& 0x0F = (0x0C : Byte)
  rw [show (0xFF : Byte) ||| Config.aneMagic = 0xFF from BitVec.allOnes_or]
  rfl

/-- UD26: with A = $00 and X = M = $FF the result is the constant. -/
theorem test_ane_constant : (opAne 0xFF (start 0x00 0xFF 0 0xFD 0x0200 0 [])).a = Config.aneMagic := by
  show ((0x00 ||| Config.aneMagic) &&& 0xFF) &&& 0xFF = Config.aneMagic
  rw [show (0xFF : Byte) = BitVec.allOnes 8 from rfl, BitVec.and_allOnes, BitVec.and_allOnes]
  exact BitVec.zero_or

/-- UD29: the result does not depend on the constant. -/
theorem test_lxa_independent :
    (opLxa 0x0F (start 0xFF 0 0 0xFD 0x0200 0 [])).a = 0x0F ∧ (opLxa 0x0F (start 0xFF 0 0 0xFD 0x0200 0 [])).x = 0x0F := by
  have h : ((0xFF : Byte) ||| Config.lxaMagic) &&& 0x0F = 0x0F := by
    rw [show (0xFF : Byte) ||| Config.lxaMagic = 0xFF from BitVec.allOnes_or]; rfl
  exact ⟨h, h⟩

/-- W8, F1: JAM at $0200 jams in one cycle and is recorded once. -/
theorem test_jam :
    (match step (start 0 0 0 0xFD 0x0200 0 [(0x0200, 0x02)]) with
      | .next t => decide (t.jammed = true ∧ t.pc = 0x0201 ∧ t.cycleCounter = 1 ∧
          t.faultLog = [{ kind := .jam 0x02 0x0200, cycle := 1 }])
      | _ => false) = true := by decide

/-! ### The sequencer (95_test_vectors.md, section 4) -/

/-- The state with an input of the CPU at a level, as propagation from a driver leaves it. -/
def drive (c : ControlPin) (l : Level) (s : State) : State := s.mapNet (fun n => n.putLevel c.pin l)

/-- `n` steps; the state as it was where one stops. -/
def steps : Nat → State → State
  | 0, s => s
  | n + 1, s =>
    match step s with
    | .next t => steps n t
    | _ => s

/-- SQ1. The core as created, with registers drawn, runs the reset sequence. -/
theorem test_sq1 :
    let s := { State.powerOn with pc := 0x1234, sp := 0x01, a := 0x77, mem := [(0xFFFD, 0xC0)] }
    let t := microSteps 7 (drive .reset .high (drive .rdy .high (drive .aec .high s)))
    busOf t = [(0x1234, .read, 0), (0x1234, .read, 0), (0x0101, .read, 0), (0x0100, .read, 0), (0x01FF, .read, 0),
      (0xFFFC, .read, 0), (0xFFFD, .read, 0xC0)] ∧
    t.pc = 0xC000 ∧ t.sp = 0xFE ∧ t.p.i = true ∧ t.a = 0x77 ∧ t.cycleCounter = 7 := by decide

/-- SQ2: a reset in the middle of an INC. -/
theorem test_sq2 :
    let s := microSteps 3 (start 0 0 0 0xFD 0x0200 0 [(0x0010, 0x11), (0x0200, 0xE6), (0x0201, 0x10)])
    let held := microSteps 2 (drive .reset .low s)
    let t := steps 1 (drive .reset .high held)
    held.isHalted = true ∧ held.cycleCounter = 3 ∧ t.mem.read 0x10 = 0x11 ∧ t.sp = 0xFA ∧ t.p.i = true ∧
    t.cycleCounter = 10 ∧ (busOf t).drop 3 = [(0x0202, .read, 0), (0x0202, .read, 0), (0x01FD, .read, 0), (0x01FC, .read, 0),
      (0x01FB, .read, 0), (0xFFFC, .read, 0), (0xFFFD, .read, 0)] := by decide

/-- SQ3: RESET ends a jam. -/
theorem test_sq3 :
    let s := steps 1 (start 0 0 0 0xFD 0x0200 0 [(0x0200, 0x02)])
    let t := steps 1 (drive .reset .low s)
    let u := steps 1 (drive .reset .high t)
    t.jammed = false ∧ u.cycleCounter = 8 ∧ (busOf u)[1]? = some (0x0201, .read, 0) ∧ u.faultLog.length = 1 := by decide

/-- SQ4: the interrupt sequence. -/
theorem test_sq4 :
    let s := { start 0 0 0 0xFF 0x0205 0x01 [(0xFFFF, 0x03)] with irqPending := true }
    let t := steps 1 s
    busOf t = [(0x0205, .read, 0), (0x0205, .read, 0), (0x01FF, .write, 0x02), (0x01FE, .write, 0x05), (0x01FD, .write, 0x21),
      (0xFFFE, .read, 0x00), (0xFFFF, .read, 0x03)] ∧
    t.pc = 0x0300 ∧ t.sp = 0xFC ∧ t.p = Flags.unpack 0x05 ∧ t.lastOpcodeAddr = s.lastOpcodeAddr := by decide

/-- A ready state with IRQ low and the interrupt vector at $0300. -/
def irqStart (sp : Byte) (pc : Word) (flags : Byte) (cells : List (Nat × Byte)) : State :=
  drive .irq .low (start 0 0 0 sp pc flags ((0xFFFF, 0x03) :: cells))

/-- SQ5: CLI delays the interrupt by one instruction. -/
theorem test_sq5 :
    let t := steps 2 (irqStart 0xFD 0x0200 0x04 [(0x0200, 0x58), (0x0201, 0xEA), (0x0202, 0xEA)])
    let u := steps 1 t
    t.pc = 0x0202 ∧ t.irqPending = true ∧ u.mem.read 0x1FD = 0x02 ∧ u.mem.read 0x1FC = 0x02 ∧ u.mem.read 0x1FB = 0x20 := by
  decide

/-- SQ6: SEI is polled with the old I. -/
theorem test_sq6 :
    let u := steps 2 (irqStart 0xFD 0x0200 0x00 [(0x0200, 0x78), (0x0201, 0xEA)])
    u.mem.read 0x1FD = 0x02 ∧ u.mem.read 0x1FC = 0x01 ∧ u.mem.read 0x1FB = 0x24 ∧ u.pc = 0x0300 ∧ u.sp = 0xFA := by decide

/-- SQ7: a branch taken within its page does not see an IRQ that comes after its first cycle. -/
theorem test_sq7 :
    let s := microSteps 1 (start 0 0 0 0xFD 0x0200 0 [(0x0200, 0xD0), (0x0202, 0xEA)])
    let t := microSteps 2 (drive .irq .low s)
    t.pc = 0x0202 ∧ t.irqPending = false ∧ (steps 1 t).pc = 0x0203 ∧ (steps 1 t).irqPending = true := by decide

/-- SQ8: a branch across a page does. -/
theorem test_sq8 :
    let s := microSteps 1 (start 0 0 0 0xFD 0x02F0 0 [(0x02F0, 0xD0), (0x02F1, 0x7F)])
    let t := microSteps 3 (drive .irq .low s)
    t.pc = 0x0371 ∧ t.irqPending = true ∧ t.micro.stage = .opcode := by decide

/-- SQ9: RTI is polled with the I it pulls. -/
theorem test_sq9 :
    let u := steps 2 (irqStart 0xFC 0x0200 0x04 [(0x0200, 0x40), (0x01FF, 0x04)])
    u.mem.read 0x1FF = 0x04 ∧ u.mem.read 0x1FE = 0x00 ∧ u.mem.read 0x1FD = 0x20 ∧ u.cycleCounter = 13 := by decide

/-- SQ10: PLP is polled with the old I. -/
theorem test_sq10 :
    let s := steps 1 (irqStart 0xFE 0x0200 0x04 [(0x0200, 0x28), (0x0201, 0xEA)])
    s.irqPending = false ∧ (steps 1 s).irqPending = true ∧ (steps 1 s).pc = 0x0202 := by decide

/-- SQ11: RDY low stalls a read cycle. -/
theorem test_sq11 :
    let s := microSteps 2 (start 0 0 0 0xFD 0x0200 0 [(0x0010, 0x42), (0x0200, 0xA5), (0x0201, 0x10)])
    let held := microSteps 2 (drive .rdy .low s)
    let t := microSteps 1 (drive .rdy .high held)
    held.trace = s.trace ∧ held.cycleCounter = 2 ∧ t.a = 0x42 ∧ t.cycleCounter = 3 ∧ t.micro.stage = .opcode := by decide

/-- SQ12: it stalls no write cycle. -/
theorem test_sq12 :
    let s := microSteps 2 (start 0x99 0 0 0xFD 0x0200 0 [(0x0200, 0x85), (0x0201, 0x10)])
    (busOf (microSteps 1 (drive .rdy .low s)))[2]? = some (0x0010, .write, 0x99) := by decide

/-- SQ13, SN34: with AEC low the cycle counts, the pins are released and keep their levels, and A is a draw. -/
theorem test_sq13 :
    let s := microSteps 2 (start 0 0 0 0xFD 0x0200 0 [(0x0200, 0xA5), (0x0201, 0x10)])
    let t := microSteps 1 (drive .aec .low s)
    t.a = Config.aecRead 2 ∧ t.cycleCounter = 3 ∧ t.net.cpu.addrDir = allPins .hiZ ∧ t.net.cpu.rwDir = .hiZ ∧
    t.net.cpu.dataDir = allPins .hiZ ∧ t.net.cpu.addr = s.net.cpu.addr := ⟨rfl, rfl, rfl, rfl, rfl, rfl⟩

/-- SQ14: a store's page crossing costs nothing. -/
theorem test_sq14 :
    (steps 2 { start 0 1 0 0xFD 0x0200 0 [(0x0200, 0xA9), (0x0201, 0x01), (0x0202, 0x9D), (0x0203, 0xFF), (0x0204, 0x10)] with
      cycleCounter := 100 }).cycleCounter = 107 := by decide

/-- SQ15: the interrupt sequence does not write lastOpcodeAddr. -/
theorem test_sq15 :
    let t := steps 1 (irqStart 0xFD 0x0200 0x00 [(0x0200, 0x20), (0x0202, 0x10)])
    t.lastOpcodeAddr = 0x0200 ∧ t.irqPending = true ∧ (steps 1 t).lastOpcodeAddr = 0x0200 := by decide

/-- SQ16: fast-forward while RESET is low. -/
theorem test_sq16 :
    let s := start 1 2 3 0xFD 0x0200 0 []
    let t := fastForward 10 (drive .reset .low s)
    t.isHalted = true ∧ t.regs = s.regs ∧ t.trace = [] ∧ t.cycleCounter = 0 ∧ t.mem = s.mem := by decide

/-- SQ17: an IRQ that no poll sees is lost. -/
theorem test_sq17 :
    let s := microSteps 1 (start 0 0 0 0xFD 0x0200 0 [(0x0200, 0xAD), (0x0202, 0x10)])
    let t := microSteps 2 (drive .irq .high (microSteps 1 (drive .irq .low s)))
    t.irqPending = false ∧ t.micro.stage = .opcode := by decide

/-- SQ18: no interrupt follows a release of RESET. -/
theorem test_sq18 :
    let s := { irqStart 0xFD 0x0200 0x00 [] with irqPending := true }
    let t := steps 1 (drive .reset .high (steps 3 (drive .reset .low s)))
    t.irqPending = false ∧ t.p.i = true ∧ t.micro.stage = .opcode := by decide

/-- SQ19: RESET abandons an interrupt sequence after one push. -/
theorem test_sq19 :
    let s := microSteps 3 { start 0 0 0 0xFF 0x0205 0x00 [] with irqPending := true }
    let t := microSteps 1 (drive .reset .low s)
    t.mem.read 0x1FF = 0x02 ∧ t.sp = 0xFE ∧ t.micro.stage = .opcode ∧ (steps 1 (drive .reset .high t)).cycleCounter = 10 := by
  decide

/-! ### The signal network (95_test_vectors.md, sections 2 and 3) -/

/-- The first pin left is visited first. -/
def firstLeft : Nat → Nat := fun _ => 0

/-- Another order of visits. -/
def otherOrder : Nat → Nat := fun k => k + 1

/-- A pin of the host's. -/
def hostPin (d : Direction) : NetM PinId := pinCreate .host "P" d

/-- `n` pins of the host's. -/
def hostPins (d : Direction) : Nat → NetM (List PinId)
  | 0 => pure []
  | n + 1 => do
    let p ← hostPin d
    let rest ← hostPins d n
    pure (p :: rest)

/-- A call on a network with no pins but the CPU's answers true. -/
def holds (m : NetM Bool) : Bool :=
  match m.run State.powerOn with
  | .ok b _ => b
  | .error _ _ => false

/-- A call stops with the fault of a kind, which it has recorded, in a state that satisfies `p`. -/
def faults (m : NetM Unit) (kind : FaultKind) (p : State → Bool) : Bool :=
  match m.run State.powerOn with
  | .ok _ _ => false
  | .error (.fault _) t => decide (t.faultLog = [{ kind := kind, cycle := 0 }]) && p t
  | .error (.refusal _) _ => false

/-- A level, read. -/
def isLevel (p : PinId) (l : Level) : NetM Bool := do pure (decide ((← getLevel p) = l))

/-- The notes so far, oldest first, are these. -/
def notesAre (notes : List Note) : NetM Bool := do pure (decide ((← get).net.notes.reverse = notes))

/-- SN1. -/
theorem test_sn1 : holds (do
    let p ← pinCreate .host "RW" .output
    let n := (← get).net
    pure (decide (n.directionOf p = some .output) && decide (n.levelOf p = .low) && decide (netOf n.links p = [p]) &&
      decide ((n.pins[0]?).bind Pin.sink = none))) = true := by decide

/-- SN2, SN3. -/
theorem test_sn2_sn3 : holds (do
    let a ← hostPin .output
    let b ← hostPin .input
    onChange .host b .done
    connect a b
    let first ← setLevel firstLeft .host a .high
    let again ← setLevel firstLeft .host a .high
    pure (first && !again && (← isLevel b .high) && (← notesAre [.pin b .high]))) = true := by decide

/-- SN4, F2. -/
theorem test_sn4 : faults (do
    let b ← hostPin .input
    let _ ← setLevel firstLeft .host b .high
    pure ()) (.invalidDirectionPin (.ext 0)) (fun t => decide (t.net.levelOf (.ext 0) = .low)) = true := by decide

/-- SN5. -/
theorem test_sn5 : holds (do
    let p ← hostPin .hiZ
    let r ← setLevel firstLeft .host p .high
    pure (!r && (← isLevel p .low))) = true := by decide

/-- SN6. -/
theorem test_sn6 : holds (do
    let a ← hostPin .output
    let b ← hostPin .input
    connect a b
    let _ ← setLevel firstLeft .host a .high
    setDirection .host b .hiZ
    let r ← setLevel firstLeft .host a .low
    pure (r && (← isLevel b .high))) = true := by decide

/-- SN7, W9: two drivers on a net. -/
theorem test_sn7 : holds (do
    let a ← hostPin .output
    let c ← hostPin .output
    let b ← hostPin .input
    onChange .host b .done
    connect a b
    connect b c
    let r1 ← setLevel firstLeft .host a .high
    let r2 ← setLevel firstLeft .host c .high
    let r3 ← setLevel firstLeft .host c .low
    let r4 ← setLevel firstLeft .host a .high
    pure (r1 && r2 && r3 && !r4 && (← isLevel a .high) && (← isLevel c .low) && (← isLevel b .low) &&
      (← notesAre [.pin b .high, .pin b .low]))) = true := by decide +kernel

/-- SN8. -/
theorem test_sn8 : holds (do
    let a ← hostPin .output
    let b ← hostPin .input
    let _ ← setLevel firstLeft .host a .high
    connect a b
    let before ← isLevel b .low
    let again ← setLevel firstLeft .host a .high
    let still ← isLevel b .low
    let _ ← setLevel firstLeft .host a .low
    let _ ← setLevel firstLeft .host a .high
    pure (before && !again && still && (← isLevel b .high))) = true := by decide

/-- SN9. -/
theorem test_sn9 : holds (do
    let a ← hostPin .output
    let b ← hostPin .input
    connect a b
    let _ ← setLevel firstLeft .host a .high
    setDirection .host a .input
    setDirection .host b .output
    let r1 ← setLevel firstLeft .host b .high
    let r2 ← setLevel firstLeft .host b .low
    pure (!r1 && r2 && (← isLevel a .low))) = true := by decide

/-- SN10, SN11, W2: merging three pins and disconnecting one. -/
theorem test_sn10_sn11 :
    let links := connectLinks (connectLinks [] (.ext 0) (.ext 1)) (.ext 1) (.ext 2)
    netOf links (.ext 0) = [.ext 0, .ext 1, .ext 2] ∧ netOf (disconnectLinks links (.ext 2)) (.ext 0) = [.ext 0, .ext 1] ∧
    netOf (disconnectLinks links (.ext 2)) (.ext 2) = [.ext 2] := by decide

/-- SN12. -/
theorem test_sn12 :
    disconnectLinks (connectLinks (connectLinks [] (.ext 0) (.ext 2)) (.ext 2) (.ext 1)) (.ext 2) = [] := by decide

/-- SN13. -/
theorem test_sn13 :
    connectLinks [] (.ext 0) (.ext 0) = [] ∧
    connectLinks (connectLinks [] (.ext 0) (.ext 1)) (.ext 0) (.ext 1) = connectLinks [] (.ext 0) (.ext 1) := by decide

/-- SN14 and SN18: a 4-bit bus is written and read, modulo 2^4. -/
theorem test_sn14_sn18 : holds (do
    let b ← busCreate (← hostPins .output 4)
    let r ← busWrite firstLeft .host b 5
    let five ← busValue b
    let _ ← busWrite firstLeft .host b 0
    let r2 ← busWrite firstLeft .host b 0x1F
    pure (r && decide (five = 5) && r2 && decide ((← busValue b) = 0xF))) = true := by decide

/-- SN15, F4, F8. -/
theorem test_sn15 : faults (do
    let p ← hostPin .output
    let q ← hostPin .input
    let b ← busCreate [p, q]
    let _ ← busWrite firstLeft .host b 1
    pure ()) (.busDirectionMismatch (.ext 0)) (fun t => decide (t.net.levelOf (.ext 0) = .low)) = true := by decide

/-- SN16, F2. -/
theorem test_sn16 : faults (do
    let b ← busCreate (← hostPins .input 8)
    let _ ← busWrite firstLeft .host b 1
    pure ()) (.invalidDirectionBus (.ext 0)) (fun t => decide (t.net.levelOf (.ext 0) = .low)) = true := by decide

/-- SN17: the aggregate sink hears one write, once. -/
theorem test_sn17 : holds (do
    let b ← busCreate (← hostPins .output 8)
    let _ ← busWrite firstLeft .host b 0xA4
    busOnChange .host b .done
    let r ← busWrite firstLeft .host b 0xA5
    let r2 ← busWrite firstLeft .host b 0xA5
    pure (r && !r2 && (← notesAre [.bus b 0xA5]))) = true := by decide

/-- SN19. -/
theorem test_sn19 : holds (do
    let b ← busCreate (← hostPins .hiZ 8)
    let r ← busWrite firstLeft .host b 0xFF
    pure (!r && (← isLevel (.ext 0) .low))) = true := by decide

/-- SN20, W3: only the written bus notifies. -/
theorem test_sn20 : holds (do
    let out ← busCreate (← hostPins .output 8)
    let inn ← busCreate (← hostPins .input 8)
    busOnChange .host inn .done
    onChange .host (.ext 11) .done
    busConnect out inn
    let _ ← busWrite otherOrder .host out 0x08
    pure (decide ((← busValue inn) = 0x08) && (← notesAre [.pin (.ext 11) .high]))) = true := by decide

/-- SN21, F7. -/
theorem test_sn21 : faults (do
    let a ← busCreate (← hostPins .output 8)
    let lo ← busCreate (← hostPins .input 4)
    busConnect a lo) (.busWidthMismatch (.ext 0) (.ext 1)) (fun t => decide (t.net.links = [])) = true := by decide

/-- SN22, W4: a remapped fan-out. -/
theorem test_sn22 : holds (do
    let a ← busCreate (← hostPins .output 8)
    let lo ← busCreate (← hostPins .input 4)
    let hi ← busCreate (← hostPins .input 4)
    busConnectMap a lo (fun i => if i < 4 then some i else none)
    busConnectMap a hi (fun i => if i < 4 then none else some (i - 4))
    let _ ← busWrite firstLeft .host a 0xA7
    pure (decide ((← busValue lo) = 0x7) && decide ((← busValue hi) = 0xA))) = true := by decide +kernel

/-- SN23. -/
theorem test_sn23 : holds (do
    let b ← busCreate (← hostPins .output 4)
    let c ← busCreate (← hostPins .input 8)
    busConnectMap b c some
    let _ ← busWrite firstLeft .host b 0xF
    pure (decide ((← busValue c) = 0x0F))) = true := by decide +kernel

/-- SN24. -/
theorem test_sn24 : holds (do
    let b ← busCreate (← hostPins .input 8)
    busDirection .host b .output
    let n := (← get).net
    pure ((n.busPins b).any (fun ps => ps.all (fun p =>
      decide (n.directionOf p = some .output) && decide (n.levelOf p = .low))) && (← notesAre []))) = true := by decide

/-- SN25, W11, F3. -/
theorem test_sn25 : faults (do
    let c ← connectorCreate "m1" .male []
    let d ← connectorCreate "m2" .male []
    connectorConnect c d) (.genderMismatch 0 1)
    (fun t => decide (t.net.links = []) && t.net.connectors.all (fun k => decide (k.peer = none))) = true := by decide

/-- SN26, F6. -/
theorem test_sn26 : faults (do
    let m ← connectorCreate "m" .male []
    let f ← connectorCreate "f" .female []
    let g ← connectorCreate "g" .female []
    connectorConnect m f
    connectorConnect m g) (.connectorBusy 0 2)
    (fun t => decide ((t.net.connectors[0]?).bind Connector.peer = some 1)) = true := by decide

/-- F9: gender is checked before busy. -/
theorem test_f9 : faults (do
    let m ← connectorCreate "m" .male []
    let f ← connectorCreate "f" .female []
    let n ← connectorCreate "n" .male []
    connectorConnect m f
    connectorConnect m n) (.genderMismatch 0 2) (fun _ => true) = true := by decide

/-- The pins of SN27: p0 to p2 are pins 0 to 2, q0 to q2 are pins 3 to 5; the MALE connector is 0, the FEMALE 1. -/
def sn27 : NetM Unit := do
  let ps ← hostPins .output 3
  let qs ← hostPins .input 3
  let m ← connectorCreate "m" .male ps
  let f ← connectorCreate "f" .female (qs.take 2)
  connectorConnect f m

/-- The ends of the links. -/
def linkEnds : NetM (List (PinId × PinId)) := do pure ((← get).net.links.map (fun l => (l.p, l.q)))

/-- SN27. -/
theorem test_sn27 : holds (do
    sn27
    let n := (← get).net
    pure (decide ((← linkEnds) = [(.ext 0, .ext 3), (.ext 1, .ext 4)]) &&
      decide (n.connectors.map Connector.peer = [some 1, some 0]))) = true := by decide

/-- SN28. -/
theorem test_sn28 : holds (do
    sn27
    connectorAddPin 1 (.ext 5)
    pure (decide ((← linkEnds) = [(.ext 0, .ext 3), (.ext 1, .ext 4), (.ext 2, .ext 5)]))) = true := by decide

/-- SN29. -/
theorem test_sn29 : holds (do
    sn27
    connectorAddPin 1 (.ext 5)
    connectorRemovePin 0 (.ext 1)
    pure (decide ((← linkEnds) = [(.ext 0, .ext 3), (.ext 2, .ext 4)]))) = true := by decide

/-- SN30. -/
theorem test_sn30 : holds (do
    sn27
    let r ← hostPin .input
    connect (.ext 0) r
    connectorDisconnect 0
    pure (decide ((← linkEnds) = [(.ext 0, .ext 6)]) &&
      (← get).net.connectors.all (fun k => decide (k.peer = none)))) = true := by decide

/-- SN31, F5: an inverter that feeds itself overflows at depth 5, and the network is unsettled. -/
theorem test_sn31 : faults (do
    modify (fun s => { s with params := { s.params with maxDepth := 4 } })
    let a ← hostPin .output
    let b ← hostPin .input
    connect a b
    onChange .host b (.setLevel a (.not (.note 0)) .done)
    let _ ← setLevel firstLeft .host a .high
    pure ()) (.propagationOverflow (.ext 0) 5) (fun t => t.net.unsettled && decide (t.net.links.length = 1)) = true := by
  decide +kernel

/-- R214, D27: a buffer whose output overflows the bound. The levels on the nets of both calls, the aborted inner one and the
outer one, are open; a pin on neither net keeps its level. -/
theorem test_overflow_opens_both_nets :
    (match (do
        modify (fun s => { s with params := { s.params with maxDepth := 1 } })
        let p ← hostPin .output
        let q ← pinCreate (.component 1) "IN" .input
        let r ← pinCreate (.component 1) "OUT" .output
        let u ← hostPin .input
        let _ ← hostPin .input
        connect p q
        connect r u
        onChange (.component 1) q (.setLevel r (.note 0) .done)
        let _ ← setLevel firstLeft .host p .high : NetM Unit).run State.powerOn with
      | .error _ t => (t.net.pins.map Pin.level =
          [Level.ofBool (Config.overflowLevel 1 30), Level.ofBool (Config.overflowLevel 1 31),
            Level.ofBool (Config.overflowLevel 1 32), Level.ofBool (Config.overflowLevel 1 33), .low]) ∧
          t.faultLog = [{ kind := .propagationOverflow (.ext 2) 2, cycle := 0 }]
      | .ok _ _ => False) := ⟨rfl, rfl⟩

/-- R262: in an idle step with AEC low the CPU's pins and the memory's are released (log entry 12). -/
theorem test_idle_release :
    (match (do
        attachMemory
        pinStep firstLeft
        modify (drive .aec .low)
        modify (drive .rdy .low)
        pinStep firstLeft : NetM Unit).run (start 0 0 0 0xFD 0x0200 0 [(0x0200, 0xEA)]) with
      | .ok _ t => decide (t.net.directionOf (.ext 0) = some .input ∧ t.net.cpu.dataDir = allPins .hiZ)
      | .error _ _ => false) = true := by decide +kernel

/-- SN32: the pins of a read cycle. -/
theorem test_sn32 :
    let c := (microStep (start 0 0 0 0xFD 0x1234 0 [(0x1234, 0xAD)])).net.cpu
    c.addr = 0x1234 ∧ c.addrDir = allPins .output ∧ c.rw = .high ∧ c.rwDir = .output ∧ c.dataDir = allPins .input ∧ c.data = 0xAD := by
  decide

/-- SN33: the pins of a write cycle. -/
theorem test_sn33 :
    let c := (microSteps 4 (start 0x55 0 0 0xFD 0x0200 0 [(0x0200, 0x8D), (0x0202, 0xC0)])).net.cpu
    c.addr = 0xC000 ∧ c.rw = .low ∧ c.data = 0x55 ∧ c.dataDir = allPins .output := by decide

/-- SQ20: one `step()` for each LOW to HIGH transition of PHI0. -/
theorem test_sq20 :
    (match (do
        attachMemory
        let c ← hostPin .output
        connect c .phi0
        let _ ← setLevel firstLeft .host c .high
        let _ ← setLevel firstLeft .host c .low
        let _ ← setLevel firstLeft .host c .high : NetM Unit).run
          (start 0 0 0 0xFD 0x0200 0 [(0x0200, 0xA9), (0x0201, 0x42)]) with
      | .ok _ t => decide (busOf t = [(0x0200, .read, 0xA9), (0x0201, .read, 0x42)] ∧ t.a = 0x42)
      | .error _ _ => false) = true := by decide +kernel

/-- R260, R261, R771: STA carried out on the pins; the memory, on the network, receives the written byte exactly. -/
theorem test_pin_write :
    (match (do
        attachMemory
        pinStep otherOrder
        pinStep otherOrder
        pinStep otherOrder : NetM Unit).run (start 0x5A 0 0 0xFD 0x0200 0 [(0x0010, 0xC3), (0x0200, 0x85), (0x0201, 0x10)]) with
      | .ok _ t => decide (t.mem.read 0x10 = 0x5A ∧ t.net.cpu.data = 0x5A ∧ t.net.cpu.dataDir = allPins .output ∧
          t.net.valueOf t.net.memoryPins = 0x5A ∧ t.net.directionOf (.ext 0) = some .input)
      | .error _ _ => false) = true := by decide +kernel

/-- R260, R114: where no component drives, a read returns the levels the data pins last received. -/
theorem test_pin_read_undriven :
    (match (pinStep firstLeft).run { start 0 0 0 0xFD 0x0200 0 [] with
        net := { Net.powerOn with cpu := { CpuPins.afterReset with data := 0xEA } } } with
      | .ok _ t => decide (busOf t = [(0x0200, .read, 0xEA)])
      | .error _ _ => false) = true := by decide +kernel

/-- R221's example, on the CPU's own bus; and R71: a control pin is always INPUT. -/
theorem test_cpu_bus_direction :
    (match (busDirection .cpu .cpuData .output).run State.powerOn with
      | .ok _ t => decide (t.net.cpu.dataDir = allPins .output)
      | .error _ _ => false) = true ∧
    (match (setDirection .cpu (.data 3) .input).run State.powerOn with
      | .ok _ t => decide (t.net.directionOf (.data 3) = some .input ∧ t.net.directionOf (.data 2) = some .hiZ)
      | .error _ _ => false) = true ∧
    (match (setDirection .cpu .rdy .output).run State.powerOn with
      | .error (.refusal r) _ => decide (r = .controlPin .rdy)
      | _ => false) = true := by decide

/-- R206: a sink turns a driver of its component round as RW tells it, and sets its level. -/
theorem test_sink_turns_a_pin : holds (do
    let line ← hostPin .output
    let sense ← pinCreate (.component 1) "SENSE" .input
    let out ← pinCreate (.component 1) "OUT" .input
    connect line sense
    onChange (.component 1) sense
      (.branch (.note 0) (.setDirection out .output (.setLevel out (.const .high) .done)) (.setDirection out .input .done)
        .done)
    let _ ← setLevel firstLeft .host line .high
    let driving := (← get).net
    let _ ← setLevel firstLeft .host line .low
    pure (decide (driving.directionOf out = some .output ∧ driving.levelOf out = .high) &&
      decide ((← get).net.directionOf out = some .input) && (← isLevel out .high))) = true := by decide +kernel

/-- R743, R208: the host drives RESET through a pin of its own; without one it cannot. -/
theorem test_host_drives_reset : holds (do
    let _ ← attachControl .reset
    let r ← drivePin firstLeft .reset .high
    let _ ← drivePin firstLeft .reset .low
    let _ ← drivePin firstLeft .reset .high
    pure (r && (← isLevel .reset .high))) = true ∧
    (match (setLevel firstLeft .host .reset .high).run State.powerOn with
      | .error (.refusal x) t => decide (x = .foreignPin .reset ∧ t.net.levelOf .reset = .low)
      | _ => false) = true ∧
    (match (drivePin firstLeft .irq .high).run State.powerOn with
      | .error (.refusal x) _ => decide (x = .noSuchObject)
      | _ => false) = true := by decide +kernel

/-- R103, R114: outside RAM and ROM the platform answers by its own state, which every transaction changes. -/
theorem test_platform_answers :
    let s := { start 0 0 0 0xFD 0x0200 0 [(0x0200, 0xAD), (0x0202, 0x80)] with
      platform := 7, map := [{ first := 0x8000, last := 0x8FFF, kind := .external }] }
    let p2 := Config.platformNext (Config.platformNext (Config.platformNext 7 true 0x0200 false 0xAD) true 0x0201 false 0x00)
      true 0x0202 false 0x80
    (steps 1 s).a = Config.platformRead p2 0x8000 ∧
      (steps 1 s).platform = Config.platformNext p2 true 0x8000 false (Config.platformRead p2 0x8000) := ⟨rfl, rfl⟩

/-- R116, R114: two reads of another master are two draws. -/
theorem test_master_reads :
    (match (do
        let a ← masterRead 0x8000
        let b ← masterRead 0x8000
        pure (a, b) : NetM (Byte × Byte)).run { drive .aec .low (start 0 0 0 0xFD 0x0200 0 []) with
          platform := 7, map := [{ first := 0x8000, last := 0x8FFF, kind := .external }] } with
      | .ok r _ => r = (Config.platformRead 7 0x8000,
          Config.platformRead (Config.platformNext 7 false 0x8000 false (Config.platformRead 7 0x8000)) 0x8000)
      | .error _ _ => False) := rfl

/-- Whether an image load is refused, or stores two bytes across the top of memory. -/
def loads (s : State) : Bool :=
  match (load 0xFFFF [0x11, 0x22]).run s with
  | .ok _ t => decide (t.mem = [(0x0000, 0x22), (0xFFFF, 0x11)])
  | .error _ _ => false

/-- R113, D34: an image load is done before the first step and while the CPU is halted. -/
theorem test_image_load :
    loads State.powerOn = true ∧ loads (drive .reset .high State.powerOn) = true ∧
    loads { start 0 0 0 0xFD 0x0200 0 [] with jammed := true, cycleCounter := 1 } = true := by decide

/-- R113, D34, U21: it is refused while the CPU runs, and after a first step that RDY stalled, though no cycle is counted. -/
theorem test_image_load_refused :
    let t := microStep (drive .rdy .low (drive .reset .high State.powerOn))
    loads (start 0 0 0 0xFD 0x0200 0 []) = false ∧ (t.cycleCounter = 0 ∧ t.isHalted = false ∧ loads t = false) := by decide

/-! ### Witnesses: hypotheses that can be met -/

/-- A ready state in which every register differs from the others: LDA #$42 at $0200, with C, I and bit 5 in P. -/
def demo : State := start 0x11 0x22 0x33 0xFD 0x0200 0x25 [(0x0200, 0xA9), (0x0201, 0x42)]

/-- `demo` inside its instruction, after the opcode fetch. -/
def inside : State := microSteps 1 demo

theorem demo_ready : demo.Ready := ⟨rfl, rfl, rfl, rfl, rfl, rfl⟩

theorem demo_wf : demo.mem.wf = true := by decide

theorem demo_inv : demo.Inv where
  memory := by decide
  counted := rfl
  cycles := by decide
  unfinished := by decide
  noExecute := by decide
  held := by decide
  pending := by decide
  jam := by decide
  faults := fun _ h => by cases h

theorem inside_inv : inside.Inv where
  memory := by decide
  counted := rfl
  cycles := by decide
  unfinished := by decide
  noExecute := by decide
  held := by decide
  pending := by decide
  jam := by decide
  faults := fun _ h => by cases h

theorem witness_DecodeEncodeIsIdentity : (Instr.staAbx 0xFFFF).wellFormed = true := rfl

theorem witness_EncodeDecodeIsIdentity : decode [0xAD, 0x34, 0x12, 0xEA] = .ok (.ldaAbs 0x1234, [0xEA]) := rfl

theorem witness_StepRunsTheDecodedInstruction : demo.Ready ∧ decode demo.fetchBytes = .ok (.ldaImm 0x42, [0x00]) :=
  ⟨demo_ready, rfl⟩

/-- The instruction's bytes wrap at the top of the address space. -/
theorem witness_InstructionInMemoryRuns :
    let s := start 0 0 0 0xFD 0xFFFF 0 [(0xFFFF, 0xAD), (0x0000, 0x34), (0x0001, 0x12)]
    s.Ready ∧ s.net.cpu.aec = .high ∧ (∀ k : Nat, k < 3 → s.regionAt (s.pc + BitVec.ofNat 16 k) ≠ .external) ∧
    (∀ k : Nat, k < (encode (.ldaAbs 0x1234)).length →
      (encode (.ldaAbs 0x1234))[k]? = some (s.mem.read (s.pc + BitVec.ofNat 16 k).toNat)) :=
  ⟨⟨rfl, rfl, rfl, rfl, rfl, rfl⟩, rfl, by decide, by decide⟩

theorem witness_FetchWordRuns : demo.mem.wf = true ∧ decodeTableWord 24 0xFFFF9D = some (.staAbx 0xFFFF) := by decide

theorem witness_StepIsWholeMicroSteps : ∃ t, step demo = .next t := ⟨_, rfl⟩

theorem witness_StepKeepsTheInvariant : demo.Inv ∧ ∃ t, step demo = .next t := ⟨demo_inv, _, rfl⟩

theorem witness_StepKeepsTheInvariant_inside : inside.Inv ∧ inside.micro.stage = .decode ∧ ∃ t, step inside = .next t :=
  ⟨inside_inv, rfl, _, rfl⟩

theorem witness_MicroStepKeepsTheInvariant : demo.Inv ∧ inside.Inv := ⟨demo_inv, inside_inv⟩

theorem witness_ResetHeldStepIsIdle :
    (drive .reset .low inside).net.cpu.reset = .low ∧ (drive .reset .low inside).net.cpu.aec = .high := ⟨rfl, rfl⟩

theorem witness_ResetSequenceEffects :
    let s := { demo with resetPending := true }
    s.net.cpu.reset = .high ∧ s.net.cpu.rdy = .high ∧ s.resetPending = true ∧ s.micro.stage = .opcode ∧ s.jammed = false ∧
    s.net.cpu.aec = .high := ⟨rfl, rfl, rfl, rfl, rfl, rfl⟩

/-- `demo` with an interrupt pending. -/
def interrupted : State := { demo with irqPending := true }

theorem witness_InterruptEntry :
    interrupted.mem.wf = true ∧ interrupted.net.cpu.reset = .high ∧ interrupted.net.cpu.rdy = .high ∧
    interrupted.resetPending = false ∧ interrupted.jammed = false ∧ interrupted.micro.stage = .opcode ∧
    interrupted.irqPending = true := ⟨demo_wf, rfl, rfl, rfl, rfl, rfl, rfl⟩

theorem witness_JammedStepIsIdle :
    let s := { demo with jammed := true }
    s.net.cpu.reset = .high ∧ s.jammed = true ∧ s.resetPending = false := ⟨rfl, rfl, rfl⟩

/-- The write cycle of a STA, with RDY low. -/
def storing : State :=
  drive .rdy .low (microSteps 2 (start 0x99 0 0 0xFD 0x0200 0 [(0x0200, 0x85), (0x0201, 0x10)]))

/-- Both outcomes and both directions: an idle step, a read, and a write with RDY low. -/
theorem witness_MicroStepIsOneTransactionOrIdle :
    (microStep (drive .rdy .low demo)).trace = demo.trace ∧
    (microStep demo).trace = { addr := 0x0200, rw := .read, data := 0xA9, delivered := true } :: demo.trace ∧
    storing.rdyLow = true ∧
    (microStep storing).trace = { addr := 0x0010, rw := .write, data := 0x99, delivered := true } :: storing.trace := by
  decide

theorem witness_PinsSettleAfterACycle :
    (microStep demo).trace = { addr := 0x0200, rw := .read, data := 0xA9, delivered := true } :: demo.trace ∧
    demo.net.cpu.aec = .high := by decide

theorem witness_PinsSettleAfterACycle_released :
    (microStep (drive .aec .low storing)).trace =
      { addr := 0x0010, rw := .write, data := 0x99, delivered := false } :: storing.trace ∧
    (drive .aec .low storing).net.cpu.aec = .low := by decide

/-- `demo` under the BOUNDARY rule. -/
def boundaryDemo : State := { demo with params := { demo.params with irqPollRule := .boundary } }

theorem witness_PollsOfInstructions :
    demo.params.irqPollRule = .hardware ∧ boundaryDemo.params.irqPollRule = .boundary ∧
    (∃ t, exec .cli demo = .next t) ∧ (∃ t, exec (.brk 0) demo = .next t) ∧ (∃ t, exec .rti demo = .next t) ∧
    (∃ t, exec .cli boundaryDemo = .next t) ∧ (∃ t, exec (.brk 0) boundaryDemo = .next t) ∧
    Instr.mnemonic .cli ≠ "JAM" ∧ Instr.mnemonic (.brk 0) = "BRK" ∧ Instr.mnemonic .rti = "RTI" :=
  ⟨rfl, rfl, ⟨_, rfl⟩, ⟨_, rfl⟩, ⟨_, rfl⟩, ⟨_, rfl⟩, ⟨_, rfl⟩, by decide, rfl, rfl⟩

theorem witness_TakenBranchCycleDoesNotPoll :
    let s := microSteps 2 (start 0 0 0 0xFD 0x0200 0 [(0x0200, 0xD0), (0x0201, 0x7F)])
    s.net.cpu.reset = .high ∧ s.net.cpu.rdy = .high ∧ s.resetPending = false ∧ s.jammed = false ∧
    s.params.irqPollRule = .hardware ∧ s.micro.stage = .decode ∧ s.micro.seq = .instr ∧ s.micro.opcode &&& 0x1F = 0x10 ∧
    s.micro.decodeCycle = 2 ∧ hiByte (s.pc + sext16 s.micro.scratch.offset) = hiByte s.pc := by decide

theorem witness_TakenBranchCycleDoesNotPoll_fetch :
    let s := start 0 0 0 0xFD 0x0200 0 [(0x0200, 0xD0), (0x0201, 0x7F)]
    s.Ready ∧ s.params.irqPollRule = .hardware ∧ s.busRead s.pc &&& 0x1F = 0x10 := ⟨⟨rfl, rfl, rfl, rfl, rfl, rfl⟩, rfl, rfl⟩

theorem witness_TakenBranchCycleDoesNotPoll_second :
    let s := microSteps 1 (start 0 0 0 0xFD 0x0200 0 [(0x0200, 0xD0), (0x0201, 0x7F)])
    s.net.cpu.reset = .high ∧ s.net.cpu.rdy = .high ∧ s.resetPending = false ∧ s.jammed = false ∧
    s.params.irqPollRule = .hardware ∧ s.micro.stage = .decode ∧ s.micro.seq = .instr ∧ s.micro.opcode &&& 0x1F = 0x10 ∧
    s.micro.decodeCycle = 1 := by decide

theorem witness_TakenBranchCycleDoesNotPoll_crossing :
    let s := microSteps 2 (start 0 0 0 0xFD 0x02F0 0 [(0x02F0, 0xD0), (0x02F1, 0x7F)])
    let t := microStep s
    s.net.cpu.reset = .high ∧ s.net.cpu.rdy = .high ∧ s.resetPending = false ∧ s.jammed = false ∧
    s.params.irqPollRule = .hardware ∧ s.micro.stage = .decode ∧ s.micro.seq = .instr ∧ s.micro.opcode &&& 0x1F = 0x10 ∧
    s.micro.decodeCycle = 2 ∧ hiByte (s.pc + sext16 s.micro.scratch.offset) ≠ hiByte s.pc ∧
    t.net.cpu.reset = .high ∧ t.net.cpu.rdy = .high ∧ t.resetPending = false ∧ t.jammed = false ∧
    t.params.irqPollRule = .hardware ∧ t.micro.stage = .decode ∧ t.micro.seq = .instr ∧ t.micro.opcode &&& 0x1F = 0x10 ∧
    t.micro.decodeCycle = 3 := by decide

theorem witness_StoresComplete : demo.mem.wf = true := demo_wf
theorem witness_StackInstructionsComplete : demo.mem.wf = true := demo_wf
theorem witness_IncrementsAndDecrementsComplete : demo.mem.wf = true := demo_wf
theorem witness_ShiftsComplete : demo.mem.wf = true := demo_wf
theorem witness_JumpsCallsAndReturnsComplete : demo.mem.wf = true := demo_wf
theorem witness_BreakAndInterruptReturnComplete : demo.mem.wf = true := demo_wf
theorem witness_CombinedModifiesComplete : demo.mem.wf = true := demo_wf

theorem witness_HighByteStoresComplete : demo.mem.wf = true ∧ demo.net.cpu.rdy = .high ∧ demo.net.cpu.aec = .high :=
  ⟨demo_wf, rfl, rfl⟩

theorem witness_HighByteStoresOpenUnderRdyOrAec :
    (drive .rdy .low demo).mem.wf = true ∧ (drive .rdy .low demo).net.cpu.rdy = .low ∧
    (drive .aec .low demo).mem.wf = true ∧ (drive .aec .low demo).net.cpu.aec = .low := ⟨demo_wf, rfl, demo_wf, rfl⟩

/-- NOP is in no list of writers, and it runs. -/
theorem witness_OnlyItsWritersChangeAFlag : (∃ t, exec .nop demo = .next t) ∧ Instr.mnemonic .nop = "NOP" := ⟨⟨_, rfl⟩, rfl⟩

theorem witness_OnlyItsWritersChangeARegister : (∃ t, exec (.staZp 0xFF) demo = .next t) ∧ Instr.mnemonic (.staZp 0xFF) = "STA" :=
  ⟨⟨_, rfl⟩, rfl⟩

theorem witness_OnlyStoringInstructionsChangeMemory :
    demo.mem.wf = true ∧ (∃ t, exec (.ldaImm 0) demo = .next t) ∧ Instr.mnemonic (.ldaImm 0) = "LDA" ∧
    (∃ t, exec (.staZp 0xFF) demo = .next t) := ⟨demo_wf, ⟨_, rfl⟩, rfl, _, rfl⟩

theorem witness_OnlyJamJams : (∃ t, exec .nop demo = .next t) ∧ Instr.mnemonic .nop ≠ "JAM" := ⟨⟨_, rfl⟩, by decide⟩

theorem witness_CallThenReturnResumes :
    demo.mem.wf = true ∧ demo.net.cpu.aec = .high ∧ (∀ b : Byte, demo.regionAt (stackAddr b) = .ram) ∧
    ∃ t u, exec (.jsrAbs 0x1000) demo = .next t ∧ exec .rts t = .next u := ⟨demo_wf, rfl, fun _ => rfl, _, _, rfl, rfl⟩

theorem witness_InterruptThenReturnResumes :
    interrupted.mem.wf = true ∧ interrupted.net.cpu.aec = .high ∧ (∀ b : Byte, interrupted.regionAt (stackAddr b) = .ram) ∧
    interrupted.net.cpu.reset = .high ∧ interrupted.net.cpu.rdy = .high ∧ interrupted.resetPending = false ∧
    interrupted.jammed = false ∧ interrupted.micro.stage = .opcode ∧ interrupted.irqPending = true ∧
    ∃ t u, step interrupted = .next t ∧ exec .rti t = .next u :=
  ⟨demo_wf, rfl, fun _ => rfl, rfl, rfl, rfl, rfl, rfl, rfl, _, _, rfl, rfl⟩

/-- A pin of the host's, as data. -/
def pinOf (d : Direction) (l : Level) : Pin := { name := "P", owner := .host, direction := d, level := l, sink := none }

/-- A network of six pins (an INPUT pin, a HI_Z pin, two OUTPUT pins, two INPUT pins), in which pins 2 and 4 and pins 3 and 5
are linked, and three buses: the linked pins', and one of disagreeing pins. -/
def wired : State :=
  demo.mapNet (fun n => { n with
    pins := [pinOf .input .low, pinOf .hiZ .low, pinOf .output .low, pinOf .output .high, pinOf .input .low, pinOf .input .high]
    links := [{ p := .ext 2, q := .ext 4, origin := .direct }, { p := .ext 3, q := .ext 5, origin := .direct }]
    buses := [{ pins := [.ext 2, .ext 3], sink := none }, { pins := [.ext 4, .ext 5], sink := none },
      { pins := [.ext 0, .ext 2], sink := none }, { pins := [.ext 1], sink := none }] })

/-- The same pins without the links. -/
def unwired : State := wired.mapNet (fun n => { n with links := [] })

theorem witness_LevelSetterContract :
    unwired.net.ownerOf (.ext 0) = some .host ∧ unwired.net.directionOf (.ext 0) = some .input ∧
    unwired.net.ownerOf (.ext 1) = some .host ∧ unwired.net.directionOf (.ext 1) = some .hiZ ∧
    unwired.net.ownerOf (.ext 3) = some .host ∧ unwired.net.directionOf (.ext 3) = some .output ∧
    unwired.net.levelOf (.ext 3) = .high ∧ unwired.net.links = [] ∧ 1 ≤ unwired.params.maxDepth ∧
    unwired.net.unsettled = false := by decide

theorem witness_PropagationSettlesANet :
    wired.net.ownerOf (.ext 2) = some .host ∧ wired.net.directionOf (.ext 2) = some .output ∧
    wired.net.levelOf (.ext 2) ≠ .high ∧ 1 ≤ wired.params.maxDepth ∧ wired.net.unsettled = false ∧
    (∀ q ∈ netOf wired.net.links (.ext 2), wired.net.sinkOf q = none) := by decide

theorem witness_BusRoundTrip :
    wired.net.busPins (.ext 0) = some [.ext 2, .ext 3] ∧ wired.net.busPins (.ext 1) = some [.ext 4, .ext 5] ∧
    ([.ext 2, .ext 3, .ext 4, .ext 5] : List PinId).Nodup ∧ 1 ≤ wired.params.maxDepth ∧ wired.net.unsettled = false ∧
    wired.net.busSink (.ext 0) = none ∧
    (∀ p ∈ ([.ext 2, .ext 3] : List PinId), wired.net.ownerOf p = some .host ∧ wired.net.directionOf p = some .output) ∧
    (∀ q ∈ ([.ext 4, .ext 5] : List PinId), wired.net.directionOf q = some .input ∧ wired.net.sinkOf q = none) ∧
    (∀ (i : Nat) (p q : PinId), ([.ext 2, .ext 3] : List PinId)[i]? = some p → ([.ext 4, .ext 5] : List PinId)[i]? = some q →
      netOf wired.net.links p = [p, q] ∧ wired.net.levelOf q = wired.net.levelOf p) := by
  refine ⟨by decide, by decide, by decide, by decide, by decide, by decide, by decide, by decide, ?_⟩
  intro i p q hp hq
  match i with
  | 0 => obtain rfl := Option.some.inj hp; obtain rfl := Option.some.inj hq; decide
  | 1 => obtain rfl := Option.some.inj hp; obtain rfl := Option.some.inj hq; decide
  | _ + 2 => simp at hp

theorem witness_BusWriteChecksFirst :
    unwired.net.busPins (.ext 2) = some [.ext 0, .ext 2] ∧ unwired.net.sharedDirection [.ext 0, .ext 2] = none ∧
    unwired.net.busPins (.ext 1) = some [.ext 4, .ext 5] ∧ unwired.net.sharedDirection [.ext 4, .ext 5] = some .input ∧
    unwired.net.busPins (.ext 3) = some [.ext 1] ∧ unwired.net.sharedDirection [.ext 1] = some .hiZ ∧
    (∀ p ∈ ([.ext 0, .ext 1, .ext 2, .ext 4, .ext 5] : List PinId), unwired.net.ownerOf p = some .host) ∧
    unwired.net.unsettled = false := by decide

/-- One of the two pins is the CPU's. -/
theorem witness_ConnectAndDisconnect :
    wired.net.directionOf (.ext 2) ≠ none ∧ wired.net.directionOf .phi0 ≠ none := by decide

/-- Two MALE connectors and two FEMALE ones; connectors 0 and 1 are connected to each other. -/
def plugged : State :=
  wired.mapNet (fun n => { n with connectors :=
    [{ name := "m", gender := .male, pins := [.ext 0], peer := some 1 },
     { name := "f", gender := .female, pins := [.ext 1], peer := some 0 },
     { name := "m2", gender := .male, pins := [.ext 2, .ext 3], peer := none },
     { name := "f2", gender := .female, pins := [.ext 4, .ext 5], peer := none }] })

theorem witness_ConnectorsBindAndUnbind :
    ∃ m f m2 f2 : Connector, plugged.net.connectors[0]? = some m ∧ plugged.net.connectors[1]? = some f ∧
      plugged.net.connectors[2]? = some m2 ∧ plugged.net.connectors[3]? = some f2 ∧ m.gender = m2.gender ∧
      m2.gender ≠ f.gender ∧ f.peer ≠ none ∧ m2.gender ≠ f2.gender ∧ m2.peer = none ∧ f2.peer = none :=
  ⟨_, _, _, _, rfl, rfl, rfl, rfl, rfl, by decide, by decide, by decide, rfl, rfl⟩

theorem demo_answered (addr : Word) : demo.regionAt addr ≠ .external := by
  have h : demo.regionAt addr = .ram := rfl
  rw [h]
  decide

/-- `demo` with the memory on the network. -/
def onNetwork : State :=
  match attachMemory.run demo with
  | .ok _ t => t
  | .error _ t => t

theorem onNetwork_wired : onNetwork.OnlyMemoryWired where
  settled := by decide
  eight := by decide
  distinct := by decide
  owned := by decide
  links := by decide
  noBusSink := by decide
  noDataSink := by decide
  noMemorySink := by decide

theorem witness_PinLevelStepIsTheMicroStep :
    onNetwork.OnlyMemoryWired ∧ (∀ addr : Word, onNetwork.regionAt addr ≠ .external) ∧ 1 ≤ onNetwork.params.maxDepth := by
  refine ⟨onNetwork_wired, fun addr => ?_, by decide⟩
  have h : onNetwork.regionAt addr = .ram := rfl
  rw [h]
  decide

theorem witness_ImageLoadStoresItsBytes :
    let s := { demo with resetPending := true }
    (demo.isHalted = false ∧ (demo.resetPending = false ∨ demo.cycleCounter ≠ 0)) ∧
    ((s.isHalted = true ∨ s.resetPending = true ∧ s.cycleCounter = 0) ∧ s.mem.wf = true ∧
      (List.replicate 65536 (0x11 : Byte)).length ≤ 65536 ∧ ∀ addr : Word, s.regionAt addr ≠ .external) :=
  ⟨⟨rfl, .inl rfl⟩, .inr ⟨rfl, rfl⟩, demo_wf, Nat.le_of_eq List.length_replicate, demo_answered⟩

theorem witness_ImageLoadStoresItsBytes_halted :
    let s := { demo with jammed := true, cycleCounter := 1 }
    (s.isHalted = true ∨ s.resetPending = true ∧ s.cycleCounter = 0) ∧ s.mem.wf = true ∧
      ∀ addr : Word, s.regionAt addr ≠ .external := ⟨.inl rfl, demo_wf, demo_answered⟩

theorem witness_ImageLoadStoresItsBytes_afterStep :
    demo.Inv ∧ (microStep demo).isHalted = false ∧ ∃ t, step demo = .next t ∧ t.isHalted = false :=
  ⟨demo_inv, rfl, _, rfl, rfl⟩

/-- A pin of a component's, as data, with a sink. -/
def listenerOf (d : Direction) (l : Level) (k : Sink) : Pin :=
  { name := "Q", owner := .component 1, direction := d, level := l, sink := some k }

/-- A net of a driver (pin 0) and a listener with a sink (pin 1); a buffer from pin 3 to pin 4, driven by pin 2, that drives
pin 5; an inverter from pin 7 to pin 6 on one net; and a bus of the driver, with an aggregate sink. -/
def heard : State :=
  demo.mapNet (fun n => { n with
    pins := [pinOf .output .low, listenerOf .input .low .done, pinOf .output .low,
      listenerOf .input .low (.setLevel (.ext 4) (.note 0) .done), { pinOf .output .low with owner := .component 1 },
      pinOf .input .low, { pinOf .output .low with owner := .component 1 },
      listenerOf .input .low (.setLevel (.ext 6) (.not (.note 0)) .done), pinOf .output .low]
    links := [{ p := .ext 0, q := .ext 1, origin := .direct }, { p := .ext 2, q := .ext 3, origin := .direct },
      { p := .ext 4, q := .ext 5, origin := .direct }, { p := .ext 6, q := .ext 7, origin := .direct }]
    buses := [{ pins := [.ext 8], sink := some { owner := .component 1, sink := .done } }] })

theorem witness_SinksAreCalledOnce :
    heard.net.ownerOf (.ext 0) = some .host ∧ heard.net.directionOf (.ext 0) = some .output ∧
    heard.net.levelOf (.ext 0) ≠ .high ∧ 1 ≤ heard.params.maxDepth ∧ heard.net.unsettled = false ∧
    (∀ q ∈ netOf heard.net.links (.ext 0), heard.net.sinkOf q = none ∨ heard.net.sinkOf q = some .done) ∧
    heard.net.sinkOf (.ext 1) = some .done := by decide

theorem witness_SinksAreCalledOnce_nested :
    heard.net.ownerOf (.ext 2) = some .host ∧ heard.net.directionOf (.ext 2) = some .output ∧
    heard.net.levelOf (.ext 2) ≠ .high ∧ 2 ≤ heard.params.maxDepth ∧
    netOf heard.net.links (.ext 2) = [.ext 2, .ext 3] ∧ heard.net.directionOf (.ext 3) = some .input ∧
    heard.net.levelOf (.ext 3) ≠ .high ∧ heard.net.sinkOf (.ext 3) = some (.setLevel (.ext 4) (.note 0) .done) ∧
    heard.net.ownerOf (.ext 4) = heard.net.ownerOf (.ext 3) ∧ netOf heard.net.links (.ext 4) = [.ext 4, .ext 5] ∧
    heard.net.directionOf (.ext 4) = some .output ∧ heard.net.levelOf (.ext 4) ≠ .high ∧
    heard.net.directionOf (.ext 5) = some .input ∧ heard.net.sinkOf (.ext 5) = none ∧
    ([.ext 2, .ext 3, .ext 4, .ext 5] : List PinId).Nodup := by decide

theorem witness_SinksAreCalledOnce_bus :
    heard.net.busPins (.ext 0) = some [.ext 8] ∧ heard.net.ownerOf (.ext 8) = some .host ∧
    heard.net.directionOf (.ext 8) = some .output ∧ (∀ q ∈ netOf heard.net.links (.ext 8), heard.net.sinkOf q = none) ∧
    heard.net.busSink (.ext 0) = some { owner := .component 1, sink := .done } := by decide

theorem witness_OscillationOverflows :
    heard.net.unsettled = false ∧ heard.net.ownerOf (.ext 6) = some (.component 1) ∧
    heard.net.ownerOf (.ext 7) = some (.component 1) ∧ heard.net.directionOf (.ext 6) = some .output ∧
    heard.net.directionOf (.ext 7) = some .input ∧ heard.net.levelOf (.ext 6) ≠ .high ∧ heard.net.levelOf (.ext 7) ≠ .high ∧
    netOf heard.net.links (.ext 6) = [.ext 6, .ext 7] ∧
    heard.net.sinkOf (.ext 7) = some (.setLevel (.ext 6) (.not (.note 0)) .done) := by decide

/-- Connectors 0 and 1 are each other's peers; a pin is added, one that is there is removed, one that is not. -/
theorem witness_ConnectorPinsStayBound :
    ∃ m f : Connector, plugged.net.connectors[0]? = some m ∧ plugged.net.connectors[1]? = some f ∧ (0 : Nat) ≠ 1 ∧
      m.peer = some 1 ∧ plugged.net.directionOf (.ext 0) ≠ none ∧ plugged.net.directionOf (.ext 3) ≠ none ∧
      .ext 0 ∈ m.pins ∧ .ext 3 ∉ m.pins :=
  ⟨_, _, rfl, rfl, by decide, rfl, by decide, by decide, by decide, by decide⟩

/-- A connector with no peer. -/
theorem witness_ConnectorPinsStayBound_alone :
    ∃ m f : Connector, plugged.net.connectors[2]? = some m ∧ plugged.net.connectors[3]? = some f ∧ (2 : Nat) ≠ 3 ∧
      m.peer = none ∧ .ext 2 ∈ m.pins := ⟨_, _, rfl, rfl, by decide, rfl, by decide⟩

end Sys2Proof.Tests
end

section
/-! PROOFS. The invariant, one rule for each operation inside a sequence, at its end and before its start; then the rows of
the sequence tables, and the step of one micro-cycle. -/

namespace Sys2Proof.Machine

variable {s : State} {n : Nat}

/-- What `State.Inv` says of everything but the micro-state, in a CPU that runs and has no reset pending. -/
structure State.Sound (s : State) : Prop where
  memory : s.mem.wf = true
  counted : s.trace.length = s.cycleCounter
  faults : ∀ r ∈ s.faultLog, r.cycle ≤ s.cycleCounter
  running : s.isHalted = false
  noReset : s.resetPending = false

/-- `s` has performed `n` cycles of a sequence that is still in progress. -/
structure State.Inside (n : Nat) (s : State) : Prop extends s.Sound where
  stage : s.micro.stage = .decode
  cycle : s.micro.decodeCycle = n

theorem State.Sound.notJammed (h : s.Sound) : s.jammed = false := (Bool.or_eq_false_iff.mp h.running).2

theorem State.Sound.notHeld (h : s.Sound) : s.resetHeld = false := (Bool.or_eq_false_iff.mp h.running).1

/-- At a boundary a sound state has the invariant. -/
theorem State.Sound.inv (h : s.Sound) (hs : s.micro.stage = .opcode) (hc : s.micro.decodeCycle ≤ 8) : s.Inv where
  memory := h.memory
  counted := h.counted
  cycles := hc
  unfinished hd := by simp [hs] at hd
  noExecute := by simp [hs]
  held hh := by simp [h.notHeld] at hh
  pending hp := by simp [h.noReset] at hp
  jam hj := by simp [h.notJammed] at hj
  faults := h.faults

/-- A sequence that may go on has the invariant. -/
theorem State.Inside.inv (h : s.Inside n) (hn : n ≤ 7) : s.Inv where
  memory := h.memory
  counted := h.counted
  cycles := by rw [h.cycle]; omega
  unfinished _ := by rw [h.cycle]; exact hn
  noExecute := by simp [h.stage]
  held hh := by simp [h.toSound.notHeld] at hh
  pending hp := by simp [h.noReset] at hp
  jam hj := by simp [h.toSound.notJammed] at hj
  faults := h.faults

theorem State.Inv.sound (h : s.Inv) (hr : s.isHalted = false) (hp : s.resetPending = false) : s.Sound :=
  ⟨h.memory, h.counted, h.faults, hr, hp⟩

theorem State.Inv.stage_eq_decode (h : s.Inv) (hs : s.micro.stage ≠ .opcode) : s.micro.stage = .decode := by
  cases e : s.micro.stage with
  | opcode => exact absurd e hs
  | decode => rfl
  | execute => exact absurd e h.noExecute

/-! ### The operations inside a sequence -/

theorem State.Sound.readCycleAs (h : s.Sound) (addr : Word) (v : Byte) : (s.readCycleAs addr v).Sound :=
  { h with
    counted := congrArg (· + 1) h.counted
    faults := fun r hr => Nat.le_succ_of_le (h.faults r hr) }

theorem State.Inside.readCycleAs (h : s.Inside n) (addr : Word) (v : Byte) : (s.readCycleAs addr v).Inside (n + 1) :=
  ⟨h.toSound.readCycleAs addr v, h.stage, congrArg (· + 1) h.cycle⟩

theorem State.Inside.readCycle (h : s.Inside n) (addr : Word) : (s.readCycle addr).Inside (n + 1) := h.readCycleAs _ _

theorem State.Inside.writeCycle (h : s.Inside n) (addr : Word) (v : Byte) : (s.writeCycle addr v).Inside (n + 1) where
  memory := s.wf_stored addr v h.memory
  counted := congrArg (· + 1) h.counted
  faults r hr := Nat.le_succ_of_le (h.faults r hr)
  running := h.running
  noReset := h.noReset
  stage := h.stage
  cycle := congrArg (· + 1) h.cycle

theorem State.Inside.incPc (h : s.Inside n) : s.incPc.Inside n := { h with }

theorem State.Inside.setPc (h : s.Inside n) (w : Word) : (s.setPc w).Inside n := { h with }

theorem State.Inside.withRegs (h : s.Inside n) (r : Regs) : (s.withRegs r).Inside n := { h with }

theorem State.Inside.withFlags (h : s.Inside n) (f : Flags) : { s with p := f }.Inside n := { h with }

theorem State.Inside.incSp (h : s.Inside n) : s.incSp.Inside n := { h with }

theorem State.Inside.decSp (h : s.Inside n) : s.decSp.Inside n := { h with }

theorem State.Inside.setI (h : s.Inside n) : s.setI.Inside n := { h with }

@[simp] theorem State.inside_withScratch (f : Scratch → Scratch) : (s.withScratch f).Inside n ↔ s.Inside n :=
  ⟨fun h => { h with }, fun h => { h with }⟩

theorem State.Inside.withScratch (h : s.Inside n) (f : Scratch → Scratch) : (s.withScratch f).Inside n :=
  (State.inside_withScratch f).mpr h

theorem State.Inside.poll (h : s.Inside n) : s.poll.Inside n := by
  unfold State.poll
  split <;> exact { h with }

theorem State.Inside.pollIf (h : s.Inside n) (now : Bool) : (s.pollIf now).Inside n := by
  unfold State.pollIf
  split
  · exact h.poll
  · exact h

theorem State.Inside.fetchCycle (h : s.Inside n) (b : Byte) : (s.fetchCycle b).Inside (n + 1) :=
  (h.readCycleAs s.pc b).incPc

theorem State.Inside.dummyPc (h : s.Inside n) : s.dummyPc.Inside (n + 1) := h.readCycle s.pc

theorem State.Inside.pushCycle (h : s.Inside n) (v : Byte) : (s.pushCycle v).Inside (n + 1) :=
  (h.writeCycle s.stackTop v).decSp

theorem State.Sound.latchOpcode (h : s.Sound) (opcode : Byte) : (s.latchOpcode opcode).Inside 1 :=
  { h with stage := rfl, cycle := rfl }

theorem State.Sound.opcodeCycle (h : s.Sound) (opcode : Byte) : (s.opcodeCycle opcode).Inside 1 :=
  (h.readCycleAs s.pc opcode).latchOpcode opcode

/-! ### The ends of a sequence -/

theorem State.Inside.endInstr (h : s.Inside n) (hn : n ≤ 8) : s.endInstr.Inv := by
  unfold State.endInstr
  split <;> exact State.Sound.inv { h with } rfl (h.cycle ▸ hn)

theorem State.Inside.endTrap (h : s.Inside n) (hn : n ≤ 8) : s.endTrap.Inv := by
  unfold State.endTrap
  split <;> exact State.Sound.inv { h with } rfl (h.cycle ▸ hn)

theorem State.Inside.enterJam (h : s.Inside n) (hn : n ≤ 8) (opcode : Byte) : (s.enterJam opcode).Inv where
  memory := h.memory
  counted := h.counted
  cycles := h.cycle ▸ hn
  unfinished hd := by cases hd
  noExecute := by simp [State.enterJam]
  held hh := absurd hh (by simp [State.enterJam, h.toSound.notHeld])
  pending hp := absurd hp (by simp [State.enterJam, h.noReset])
  jam _ := rfl
  faults r hr := by
    rcases List.mem_append.mp hr with hr | hr
    · exact h.faults r hr
    · rw [List.mem_singleton.mp hr]; exact le_rfl

/-! ### Idle steps and the checks at the start of a step (R300) -/

theorem State.Inv.idleCycle (h : s.Inv) : s.idleCycle.Inv := { h with }

theorem State.Inv.stallCycle (h : s.Inv) : s.stallCycle.Inv := { h with }

theorem State.Inv.holdReset (h : s.Inv) : s.holdReset.Inv where
  memory := h.memory
  counted := h.counted
  cycles := h.cycles
  unfinished hd := by cases hd
  noExecute := by simp [State.holdReset]
  held _ := rfl
  pending _ := ⟨rfl, rfl⟩
  jam _ := rfl
  faults := h.faults

theorem State.Sound.startIrq (h : s.Sound) : s.startIrq.Inside 0 := { h with stage := rfl, cycle := rfl }

/-- Once RESET is high the CPU is no longer held. -/
theorem State.Inv.release (h : s.Inv) : { s with resetHeld := false }.Inv := { h with held := fun hh => by cases hh }

theorem State.Inv.startReset (h : s.Inv) (hp : s.resetPending = true) :
    { s with resetHeld := false }.startReset.Inside 0 where
  memory := h.memory
  counted := h.counted
  faults := h.faults
  running := (h.pending hp).2
  noReset := rfl
  stage := rfl
  cycle := rfl

/-- The checks of R300 keep the invariant, and a step they let run finds the CPU running with no reset pending. -/
theorem State.Inv.prelude (h : s.Inv) :
    (∃ t, s.prelude = .idle t ∧ t.Inv) ∨ ∃ t, s.prelude = .run t ∧ t.Inv ∧ t.Sound := by
  cases hl : s.resetLow with
  | true => exact .inl ⟨_, s.prelude_held hl, h.holdReset⟩
  | false =>
    cases hp : s.resetPending with
    | true =>
      have hi := h.startReset hp
      exact .inr ⟨_, s.prelude_reset hl hp (h.pending hp).1 (h.pending hp).2, hi.inv (by omega), hi.toSound⟩
    | false =>
      cases hj : s.jammed with
      | true => exact .inl ⟨_, s.prelude_jammed hl hp hj, h.release⟩
      | false =>
        have hs : { s with resetHeld := false }.Sound := h.release.sound (by simp [State.isHalted, hj]) hp
        by_cases hi : s.micro.stage = .opcode ∧ s.irqPending = true
        · exact .inr ⟨_, s.prelude_irq hl hp hi.1 hj hi.2, hs.startIrq.inv (by omega), hs.startIrq.toSound⟩
        · refine .inr ⟨{ s with resetHeld := false }, ?_, h.release, hs⟩
          have hi : s.micro.stage = .opcode → s.irqPending = false := by simpa using hi
          simp +contextual [State.prelude, hl, hp, hj, hi]

variable {P Q R : State → Prop}

/-! ### The dispatch table's operations -/

/-- What the operation of an instruction's kind does, the byte it acts on given; nothing for the kinds with no operation. -/
def Kind.effect : Kind → Byte → State → State
  | .implied e, _ => e
  | .acc result e, _ => fun t => { e t.a t with a := result t.a t }
  | .imm e, v => e v
  | .read _ e, v => e v
  | .rmw _ _ e, v => e v
  | .high _ _ e, _ => e
  | .pull e, v => e v
  | _, _ => id

/-- The operation of a kind changes nothing but the programmer's registers. -/
def Kind.OnRegs (k : Kind) : Prop := ∀ v t, k.effect v t = t.withRegs (k.effect v t).regs

/-- The operations of the table's entries, row by row, by definition. -/
theorem kindTable_onRegs : ∀ row ∈ kindTable, ∀ k ∈ row, k.OnRegs := by
  intro row hrow
  fin_cases hrow
  all_goals
    intro k hk
    fin_cases hk
  all_goals exact fun _ _ => rfl

/-- The operation of every opcode's instruction changes nothing but registers (R306). -/
theorem kindOf_onRegs (opcode : Byte) : (kindOf opcode).OnRegs := by
  unfold kindOf
  cases hrow : kindTable[opcode.toNat / 16]? with
  | none => exact fun _ _ => rfl
  | some row =>
    cases hk : row[opcode.toNat % 16]? with
    | none =>
      simp only [Option.getD_some, hk, Option.getD_none]
      exact fun _ _ => rfl
    | some k =>
      simp only [Option.getD_some, hk]
      exact kindTable_onRegs row (List.mem_of_getElem? hrow) k (List.mem_of_getElem? hk)

theorem Kind.OnRegs.inside {k : Kind} (hk : k.OnRegs) (h : s.Inside n) (v : Byte) : (k.effect v s).Inside n := by
  rw [hk v s]
  exact h.withRegs _

/-! ### Rows -/

/-- The end of the row's cycle takes each state with `P` to one with `Q`. -/
def Row.Maps (P Q : State → Prop) : Row → Prop
  | .read _ after => ∀ v t, P t → Q (after v t)
  | .write _ _ after => ∀ t, P t → Q (after t)

theorem Row.Maps.weaken {r : Row} (h : r.Maps P Q) (hq : ∀ t, Q t → R t) : r.Maps P R := by
  cases r with
  | read addr after => exact fun v t ht => hq _ (h v t ht)
  | write addr v after => exact fun t ht => hq _ (h t ht)

theorem Row.Maps.andThen {r : Row} {f : State → State} (h : r.Maps P Q) (hf : ∀ t, Q t → R (f t)) :
    (r.andThen f).Maps P R := by
  cases r with
  | read addr after => exact fun v t ht => hf _ (h v t ht)
  | write addr v after => exact fun t ht => hf _ (h t ht)

theorem fetchRow_maps {after : Byte → State → State} (h : ∀ v t, t.Inside n → Q (after v t)) :
    (fetchRow s after).Maps (State.Inside n) Q := fun v _ ht => h v _ ht.incPc

/-- The rows before the operand's end inside the sequence. -/
theorem headRow_maps (m : MemMode) (c : Nat) : (headRow m c s).Maps (State.Inside n) (State.Inside n) := by
  unfold headRow
  split <;> simp +contextual [Row.Maps, fetchRow, dummyRow, State.latchLo, State.latchHi, State.latchPtr, State.latchEa,
    State.Inside.incPc]

/-- The operand's cycle is the sixth at the latest (R354 to R361). -/
theorem operandCycle_le (m : MemMode) (forced : Bool) : operandCycle m forced s ≤ 6 := by
  unfold operandCycle
  repeat' split
  all_goals omega

/-- Each row of a sequence counts its cycle, and ends the sequence if it is the eighth. -/
abbrev Row.Sound (c : Nat) : Row → Prop := Row.Maps (State.Inside c) State.Inv

theorem Row.sound_of_inside {c : Nat} {r : Row} (h : r.Maps (State.Inside c) (State.Inside c)) (hc : c ≤ 7) : r.Sound c :=
  h.weaken fun _ ht => ht.inv hc

section
variable {c : Nat} (hc : c ≤ 8)
include hc

theorem oneCycleOperand_sound (m : MemMode) (forced : Bool) {last : Row} (h : last.Sound c) :
    (oneCycleOperand m forced last c s).Sound c := by
  have hle := operandCycle_le (s := s) m forced
  unfold oneCycleOperand
  split
  · exact Row.sound_of_inside ((headRow_maps m c).andThen fun t ht => ht.pollIf _) (by omega)
  · exact h

theorem modifyRow_sound (m : MemMode) (result : Byte → State → Byte) {effect : Byte → State → State}
    (he : ∀ v t, t.Inside c → (effect v t).Inside c) : (modifyRow m result effect c s).Sound c := by
  have hle := operandCycle_le (s := s) m true
  unfold modifyRow
  split
  · exact Row.sound_of_inside (headRow_maps m c) (by omega)
  split
  · exact fun v t ht => (ht.withScratch _).inv (by omega)
  split
  · exact fun t ht => ht.poll.inv (by omega)
  · exact fun t ht => (he _ t ht).endInstr hc

theorem branchRow_sound (cond : Flags → Bool) : (branchRow cond c s).Sound c := by
  unfold branchRow
  split
  · refine fetchRow_maps fun v t ht => ?_
    split
    · exact (ht.withScratch _).inv (by omega)
    · exact ht.endInstr hc
  · intro v t ht
    dsimp only
    split
    · exact (ht.setPc _).endInstr hc
    · exact ((ht.withScratch _).setPc _).poll.inv (by omega)
  · exact fun v t ht => (ht.setPc _).endInstr hc

theorem pushRow_sound (value : State → Byte) : (pushRow value c s).Sound c := by
  unfold pushRow
  split
  · exact fun v t ht => ht.poll.inv (by omega)
  · exact fun t ht => ht.decSp.endInstr hc

theorem pullRow_sound {effect : Byte → State → State} (he : ∀ v t, t.Inside c → (effect v t).Inside c) :
    (pullRow effect c s).Sound c := by
  unfold pullRow
  split
  · exact fun v t ht => ht.inv (by omega)
  · exact fun v t ht => ht.incSp.poll.inv (by omega)
  · exact fun v t ht => (he v t ht).endInstr hc

theorem jmpAbsRow_sound : (jmpAbsRow c s).Sound c := by
  unfold jmpAbsRow
  split
  · exact fetchRow_maps fun v t ht => (ht.withScratch _).poll.inv (by omega)
  · exact fun v t ht => (ht.setPc _).endInstr hc

theorem jmpIndRow_sound : (jmpIndRow c s).Sound c := by
  unfold jmpIndRow
  split
  · exact fetchRow_maps fun v t ht => (ht.withScratch _).inv (by omega)
  · exact fetchRow_maps fun v t ht => (ht.withScratch _).inv (by omega)
  · exact fun v t ht => (ht.withScratch _).poll.inv (by omega)
  · exact fun v t ht => (ht.setPc _).endInstr hc

theorem jsrRow_sound : (jsrRow c s).Sound c := by
  unfold jsrRow
  split
  · exact fetchRow_maps fun v t ht => (ht.withScratch _).inv (by omega)
  · exact fun v t ht => ht.inv (by omega)
  · exact fun t ht => ht.decSp.inv (by omega)
  · exact fun t ht => ht.decSp.poll.inv (by omega)
  · exact fun v t ht => (ht.setPc _).endInstr hc

theorem rtsRow_sound : (rtsRow c s).Sound c := by
  unfold rtsRow
  split
  · exact fun v t ht => ht.inv (by omega)
  · exact fun v t ht => ht.incSp.inv (by omega)
  · exact fun v t ht => (ht.withScratch _).incSp.inv (by omega)
  · exact fun v t ht => (ht.setPc _).poll.inv (by omega)
  · exact fun v t ht => ht.incPc.endInstr hc

theorem rtiRow_sound : (rtiRow c s).Sound c := by
  unfold rtiRow
  split
  · exact fun v t ht => ht.inv (by omega)
  · exact fun v t ht => ht.incSp.inv (by omega)
  · exact fun v t ht => (ht.withRegs { t.regs with p := Flags.unpack v }).incSp.inv (by omega)
  · exact fun v t ht => (ht.withScratch _).incSp.poll.inv (by omega)
  · exact fun v t ht => (ht.setPc _).endInstr hc

theorem vectorRow_sound (lo hi : Word) : (vectorRow lo hi c).Sound c := by
  unfold vectorRow
  split
  · exact fun v t ht => (ht.withScratch _).setI.poll.inv (by omega)
  · exact fun v t ht => (ht.setPc _).endTrap hc

theorem trapRow_sound (b : Bool) : (trapRow b c s).Sound c := by
  unfold trapRow
  split
  · exact fun t ht => ht.decSp.inv (by omega)
  · exact fun t ht => ht.decSp.inv (by omega)
  · exact fun t ht => ht.decSp.inv (by omega)
  · exact vectorRow_sound hc _ _

theorem brkRow_sound : (brkRow c s).Sound c := by
  unfold brkRow
  split
  · exact fetchRow_maps fun v t ht => ht.inv (by omega)
  · exact trapRow_sound hc true

theorem irqRow_sound : (irqRow c s).Sound c := by
  unfold irqRow
  split
  · exact fun v t ht => ht.inv (by omega)
  · exact fun v t ht => ht.inv (by omega)
  · exact trapRow_sound hc false

theorem resetRow_sound : (resetRow c s).Sound c := by
  unfold resetRow
  split
  · exact fun v t ht => ht.inv (by omega)
  · exact fun v t ht => ht.inv (by omega)
  · exact fun v t ht => ht.decSp.inv (by omega)
  · exact fun v t ht => ht.decSp.inv (by omega)
  · exact fun v t ht => ht.decSp.inv (by omega)
  · exact vectorRow_sound hc _ _

theorem instrRow_sound {k : Kind} (hk : k.OnRegs) : (instrRow k c s).Sound c := by
  have he : ∀ v t, State.Inside c t → (k.effect v t).Inside c := fun v t ht => hk.inside ht v
  cases k with
  | implied e => exact fun v t ht => (he v t ht).endInstr hc
  | acc result e => exact fun v t ht => (he v t ht).endInstr hc
  | imm e => exact fetchRow_maps fun v t ht => (he v t ht).endInstr hc
  | read m e => exact oneCycleOperand_sound hc m false fun v t ht => (he v t ht).endInstr hc
  | write m value => exact oneCycleOperand_sound hc m true fun t ht => ht.endInstr hc
  | rmw m result e => exact modifyRow_sound hc m result he
  | high m reg e => exact oneCycleOperand_sound hc m true fun t ht => (he 0 t ht).endInstr hc
  | branch cond => exact branchRow_sound hc cond
  | push value => exact pushRow_sound hc value
  | pull e => exact pullRow_sound hc he
  | jmpAbs => exact jmpAbsRow_sound hc
  | jmpInd => exact jmpIndRow_sound hc
  | jsr => exact jsrRow_sound hc
  | rts => exact rtsRow_sound hc
  | rti => exact rtiRow_sound hc
  | brk => exact brkRow_sound hc
  | jam => exact fun v t ht => ht.endInstr hc

end

/-- The opcode fetch ends inside an instruction, or jammed (R302, R313). -/
theorem afterOpcode_inv (h : s.Inside 1) (opcode : Byte) : (afterOpcode opcode s).Inv := by
  unfold afterOpcode
  split
  · exact h.enterJam (by omega) opcode
  · exact (h.pollIf _).inv (by omega)

/-- The next cycle inside a sequence. -/
theorem State.Inside.currentRow_sound (h : s.Inside n) (hn : n ≤ 7) : s.currentRow.Sound (n + 1) := by
  have hc : n + 1 ≤ 8 := by omega
  unfold State.currentRow
  rw [h.stage, h.cycle]
  cases s.micro.seq with
  | instr => exact instrRow_sound hc (kindOf_onRegs _)
  | irq => exact irqRow_sound hc
  | reset => exact resetRow_sound hc

/-- One cycle from a running state, or its stall (R305, R310). -/
theorem State.Inv.microCycle (h : s.Inv) (hs : s.Sound) : s.microCycle.Inv := by
  unfold State.microCycle
  by_cases hb : s.micro.stage = .opcode
  · have e : s.currentRow = opcodeRow s := by simp [State.currentRow, hb]
    rw [e]
    dsimp only [opcodeRow]
    split
    · exact h.stallCycle
    · exact afterOpcode_inv ((hs.readCycleAs _ _).latchOpcode _) _
  · have hd := h.stage_eq_decode hb
    have hi : s.Inside s.micro.decodeCycle := ⟨hs, hd, rfl⟩
    have hrow := hi.currentRow_sound (h.unfinished hd)
    cases e : s.currentRow with
    | read addr after =>
      rw [e] at hrow
      dsimp only
      split
      · exact h.stallCycle
      · exact hrow _ _ (hi.readCycle addr)
    | write addr v after =>
      rw [e] at hrow
      exact hrow _ (hi.writeCycle addr v)

/-- Settles O11: the checks of R300 leave a state with the invariant; the cycle they let run is one row of a sequence, and
every row counts one cycle and ends its sequence at the latest with the eighth. -/
theorem microStepKeepsTheInvariant : Obligations.MicroStepKeepsTheInvariant := by
  intro s h
  unfold microStep
  rcases h.prelude with ⟨t, e, ht⟩ | ⟨t, e, ht, hs⟩
  · rw [e]
    exact ht.idleCycle
  · rw [e]
    exact ht.microCycle hs

end Sys2Proof.Machine
end

section
/-! PROOFS. What `exec` does, by the kind the dispatch table gives an instruction; and the invariant over whole sequences. -/

namespace Sys2Proof.Machine

variable {s : State} {n : Nat}

/-! ### What `exec` does, by the kind of the instruction -/

/-- `u` is `s` after the cycles of an addressing mode before the operand's (R354 to R361). -/
inductive State.Heads (s : State) : State → Prop
  | zp {op zp : Byte} : s.Heads (s.fetch2 op zp)
  | zpIndexed {op zp : Byte} : s.Heads (s.headZpIndexed op zp)
  | abs {op : Byte} {addr : Word} : s.Heads (s.fetch3 op addr)
  | absRead {op : Byte} {addr : Word} {index : Byte} : s.Heads (s.headAbsRead op addr index)
  | absFixed {op : Byte} {addr : Word} {index : Byte} : s.Heads (s.headAbsFixed op addr index)
  | izx {op zp : Byte} : s.Heads (s.headIzx op zp)
  | izyRead {op zp : Byte} : s.Heads (s.headIzyRead op zp)
  | izyFixed {op zp : Byte} : s.Heads (s.headIzyFixed op zp)

/-- `t` is what an instruction of a kind leaves of `s`. -/
inductive Performs (s : State) : Kind → State → Prop
  | implied {op e} : Performs s (.implied e) (implied op e s)
  | acc {op result e} : Performs s (.acc result e) (accumulator op result e s)
  | imm {op imm e} : Performs s (.imm e) (immediate op imm e s)
  | read {m u ea e} (h : s.Heads u) : Performs s (.read m e) (u.readTail ea e)
  | write {m u ea value} (h : s.Heads u) : Performs s (.write m value) (u.writeTail ea value)
  | rmw {m u ea result e} (h : s.Heads u) : Performs s (.rmw m result e) (u.modifyTail ea result e)
  | high {m u base index reg e} (h : s.Heads u) : Performs s (.high m reg e) (u.highStoreTail base index reg e)
  | branch {op offset cond} : Performs s (.branch cond) (branch op offset cond s)
  | push {op value} : Performs s (.push value) (push op value s)
  | pull {op e} : Performs s (.pull e) (pull op e s)
  | jmpAbs {op addr} : Performs s .jmpAbs (jmpAbsolute op addr s)
  | jmpInd {op ptr} : Performs s .jmpInd (jmpIndirect op ptr s)
  | jsr {op addr} : Performs s .jsr (jsr op addr s)
  | rts {op} : Performs s .rts (rts op s)
  | rti {op} : Performs s .rti (rti op s)
  | brk {op signature} : Performs s .brk (breakSeq op signature s)
  | jam {op} : Performs s .jam (jam op s)

/-- Every instruction has the meaning its opcode's entry of the dispatch table names (R306). -/
theorem exec_performs (i : Instr) (s : State) :
    ∃ op t, (encode i).head? = some op ∧ exec i s = .next t ∧ Performs s (kindOf op) t := by
  cases i with
  | clc | nop1A | sec | nop3A | cli | nop5A | sei | nop7A | dey | txa | tya | txs | tay | tax | clv | tsx | iny | dex
  | cld | nopDA | inx | nop | sed | nopFA => exact ⟨_, _, rfl, rfl, .implied⟩
  | aslAcc | rolAcc | lsrAcc | rorAcc => exact ⟨_, _, rfl, rfl, .acc⟩
  | oraImm | ancImm0B | andImm | ancImm2B | eorImm | alrImm | adcImm | arrImm | nopImm80 | nopImm82 | nopImm89 | aneImm
  | ldyImm | ldxImm | ldaImm | lxaImm | cpyImm | nopImmC2 | cmpImm | sbxImm | cpxImm | nopImmE2 | sbcImm | usbcImm
    => exact ⟨_, _, rfl, rfl, .imm⟩
  | nopZp04 | oraZp | bitZp | andZp | nopZp44 | eorZp | nopZp64 | adcZp | ldyZp | ldaZp | ldxZp | laxZp | cpyZp | cmpZp
  | cpxZp | sbcZp => exact ⟨_, _, rfl, rfl, .read .zp⟩
  | nopZpx14 | oraZpx | nopZpx34 | andZpx | nopZpx54 | eorZpx | nopZpx74 | adcZpx | ldyZpx | ldaZpx | ldxZpy | laxZpy
  | nopZpxD4 | cmpZpx | nopZpxF4 | sbcZpx => exact ⟨_, _, rfl, rfl, .read .zpIndexed⟩
  | nopAbs | oraAbs | bitAbs | andAbs | eorAbs | adcAbs | ldyAbs | ldaAbs | ldxAbs | laxAbs | cpyAbs | cmpAbs | cpxAbs
  | sbcAbs => exact ⟨_, _, rfl, rfl, .read .abs⟩
  | oraAby | nopAbx1C | oraAbx | andAby | nopAbx3C | andAbx | eorAby | nopAbx5C | eorAbx | adcAby | nopAbx7C | adcAbx
  | ldaAby | lasAby | ldyAbx | ldaAbx | ldxAby | laxAby | cmpAby | nopAbxDC | cmpAbx | sbcAby | nopAbxFC | sbcAbx
    => exact ⟨_, _, rfl, rfl, .read .absRead⟩
  | oraIzx | andIzx | eorIzx | adcIzx | ldaIzx | laxIzx | cmpIzx | sbcIzx => exact ⟨_, _, rfl, rfl, .read .izx⟩
  | oraIzy | andIzy | eorIzy | adcIzy | ldaIzy | laxIzy | cmpIzy | sbcIzy => exact ⟨_, _, rfl, rfl, .read .izyRead⟩
  | styZp | staZp | stxZp | saxZp => exact ⟨_, _, rfl, rfl, .write .zp⟩
  | styZpx | staZpx | stxZpy | saxZpy => exact ⟨_, _, rfl, rfl, .write .zpIndexed⟩
  | styAbs | staAbs | stxAbs | saxAbs => exact ⟨_, _, rfl, rfl, .write .abs⟩
  | staAby | staAbx => exact ⟨_, _, rfl, rfl, .write .absFixed⟩
  | staIzx | saxIzx => exact ⟨_, _, rfl, rfl, .write .izx⟩
  | staIzy => exact ⟨_, _, rfl, rfl, .write .izyFixed⟩
  | aslZp | sloZp | rolZp | rlaZp | lsrZp | sreZp | rorZp | rraZp | decZp | dcpZp | incZp | iscZp
    => exact ⟨_, _, rfl, rfl, .rmw .zp⟩
  | aslZpx | sloZpx | rolZpx | rlaZpx | lsrZpx | sreZpx | rorZpx | rraZpx | decZpx | dcpZpx | incZpx | iscZpx
    => exact ⟨_, _, rfl, rfl, .rmw .zpIndexed⟩
  | aslAbs | sloAbs | rolAbs | rlaAbs | lsrAbs | sreAbs | rorAbs | rraAbs | decAbs | dcpAbs | incAbs | iscAbs
    => exact ⟨_, _, rfl, rfl, .rmw .abs⟩
  | sloAby | aslAbx | sloAbx | rlaAby | rolAbx | rlaAbx | sreAby | lsrAbx | sreAbx | rraAby | rorAbx | rraAbx | dcpAby
  | decAbx | dcpAbx | iscAby | incAbx | iscAbx => exact ⟨_, _, rfl, rfl, .rmw .absFixed⟩
  | sloIzx | rlaIzx | sreIzx | rraIzx | dcpIzx | iscIzx => exact ⟨_, _, rfl, rfl, .rmw .izx⟩
  | sloIzy | rlaIzy | sreIzy | rraIzy | dcpIzy | iscIzy => exact ⟨_, _, rfl, rfl, .rmw .izyFixed⟩
  | tasAby | shyAbx | shxAby | shaAby => exact ⟨_, _, rfl, rfl, .high .absFixed⟩
  | shaIzy => exact ⟨_, _, rfl, rfl, .high .izyFixed⟩
  | bpl | bmi | bvc | bvs | bcc | bcs | bne | beq => exact ⟨_, _, rfl, rfl, .branch⟩
  | php | pha => exact ⟨_, _, rfl, rfl, .push⟩
  | plp | pla => exact ⟨_, _, rfl, rfl, .pull⟩
  | jmpAbs => exact ⟨_, _, rfl, rfl, .jmpAbs⟩
  | jmpInd => exact ⟨_, _, rfl, rfl, .jmpInd⟩
  | jsrAbs => exact ⟨_, _, rfl, rfl, .jsr⟩
  | rts => exact ⟨_, _, rfl, rfl, .rts⟩
  | rti => exact ⟨_, _, rfl, rfl, .rti⟩
  | brk => exact ⟨_, _, rfl, rfl, .brk⟩
  | jam02 | jam12 | jam22 | jam32 | jam42 | jam52 | jam62 | jam72 | jam92 | jamB2 | jamD2 | jamF2
    => exact ⟨_, _, rfl, rfl, .jam⟩

/-! ### The invariant over whole sequences -/

theorem State.Sound.fetch2 (h : s.Sound) (op b : Byte) : (s.fetch2 op b).Inside 2 := (h.opcodeCycle op).fetchCycle b

theorem State.Sound.fetch3 (h : s.Sound) (op : Byte) (addr : Word) : (s.fetch3 op addr).Inside 3 :=
  (h.fetch2 op _).fetchCycle _

theorem State.Sound.headIzy (h : s.Sound) (op zp : Byte) : (s.headIzy op zp).Inside 4 :=
  ((h.fetch2 op zp).readCycle _).readCycle _

theorem State.Sound.headJsr (h : s.Sound) (op lo : Byte) : (s.headJsr op lo).Inside 5 :=
  ((((h.fetch2 op lo).readCycle _).pushCycle _).pushCycle _).poll

/-- The cycles before the operand's are at most five (R354 to R361). -/
theorem State.Heads.inside {u : State} (hu : s.Heads u) (h : s.Sound) : ∃ n, n ≤ 5 ∧ u.Inside n := by
  cases hu with
  | zp => exact ⟨2, by omega, h.fetch2 _ _⟩
  | zpIndexed => exact ⟨3, by omega, (h.fetch2 _ _).readCycle _⟩
  | abs => exact ⟨3, by omega, h.fetch3 _ _⟩
  | absRead =>
    unfold State.headAbsRead
    split
    · exact ⟨4, by omega, (h.fetch3 _ _).readCycle _⟩
    · exact ⟨3, by omega, h.fetch3 _ _⟩
  | absFixed => exact ⟨4, by omega, (h.fetch3 _ _).readCycle _⟩
  | izx => exact ⟨5, by omega, (((h.fetch2 _ _).readCycle _).readCycle _).readCycle _⟩
  | izyRead =>
    unfold State.headIzyRead
    split
    · exact ⟨5, by omega, (h.headIzy _ _).readCycle _⟩
    · exact ⟨4, by omega, h.headIzy _ _⟩
  | izyFixed => exact ⟨5, by omega, (h.headIzy _ _).readCycle _⟩

theorem State.Inside.loadVector (h : s.Inside n) (hn : n ≤ 6) (lo hi : Word) : (s.loadVector lo hi).Inv :=
  (((h.readCycle lo).setI.poll.readCycle hi).setPc _).endTrap (by omega)

theorem State.Inside.enterInterrupt (h : s.Inside n) (hn : n ≤ 3) (b : Bool) : (s.enterInterrupt b).Inv :=
  (((h.pushCycle _).pushCycle _).pushCycle _).loadVector (by omega) _ _

theorem State.Inside.suppressedPush (h : s.Inside n) : s.suppressedPush.Inside (n + 1) := (h.readCycle _).decSp

theorem State.Inside.irqSequence (h : s.Inside 0) : s.irqSequence.Inv := h.dummyPc.dummyPc.enterInterrupt (by omega) false

theorem State.Inside.resetSequence (h : s.Inside 0) : s.resetSequence.Inv :=
  h.dummyPc.dummyPc.suppressedPush.suppressedPush.suppressedPush.loadVector (by omega) _ _

theorem State.Inside.returnFromInterrupt (h : s.Inside n) (hn : n ≤ 4) : s.returnFromInterrupt.Inv := by
  unfold State.returnFromInterrupt
  extract_lets s3 pulled s4 s5
  have h3 : s3.Inside (n + 1) := (h.readCycle _).incSp
  have hp : pulled.Inside (n + 2) := h3.readCycle _
  have h4 : s4.Inside (n + 2) := (hp.withFlags _).incSp
  have h5 : s5.Inside (n + 3) := (h4.readCycle _).incSp.poll
  exact ((h5.readCycle _).setPc _).endInstr (by omega)

theorem branch_inv (h : s.Sound) (op offset : Byte) (cond : Flags → Bool) : (branch op offset cond s).Inv := by
  have h2 := (h.opcodeCycle op).poll.fetchCycle offset
  unfold branch
  dsimp only
  split
  · split
    · exact (h2.dummyPc.setPc _).endInstr (by omega)
    · exact ((h2.dummyPc.setPc _).poll.dummyPc.setPc _).endInstr (by omega)
  · exact h2.endInstr (by omega)

/-- Every kind of instruction leaves the invariant, by the count of its cycles. -/
theorem Performs.inv {k : Kind} {t : State} (ht : Performs s k t) (hk : k.OnRegs) (h : s.Sound) : t.Inv := by
  have he {n u} (v : Byte) (hu : State.Inside n u) : (k.effect v u).Inside n := hk.inside hu v
  cases ht with
  | implied => exact (he 0 (h.opcodeCycle _).poll.dummyPc).endInstr (by omega)
  | acc => exact (he 0 (h.opcodeCycle _).poll.dummyPc).endInstr (by omega)
  | imm => exact (he _ ((h.opcodeCycle _).poll.fetchCycle _)).endInstr (by omega)
  | read hu =>
    obtain ⟨n, hn, hi⟩ := hu.inside h
    exact (he _ (hi.poll.readCycle _)).endInstr (by omega)
  | write hu =>
    obtain ⟨n, hn, hi⟩ := hu.inside h
    exact (hi.poll.writeCycle _ _).endInstr (by omega)
  | rmw hu =>
    obtain ⟨n, hn, hi⟩ := hu.inside h
    exact (he _ (((hi.readCycle _).writeCycle _ _).poll.writeCycle _ _)).endInstr (by omega)
  | high hu =>
    obtain ⟨n, hn, hi⟩ := hu.inside h
    exact (he 0 (hi.poll.writeCycle _ _)).endInstr (by omega)
  | branch => exact branch_inv h _ _ _
  | push => exact ((h.opcodeCycle _).dummyPc.poll.pushCycle _).endInstr (by omega)
  | pull => exact (he _ (((h.opcodeCycle _).dummyPc.readCycle _).incSp.poll.readCycle _)).endInstr (by omega)
  | jmpAbs => exact (((h.fetch2 _ _).poll.readCycleAs _ _).setPc _).endInstr (by omega)
  | jmpInd => exact ((((h.fetch3 _ _).readCycle _).poll.readCycle _).setPc _).endInstr (by omega)
  | jsr => exact (((h.headJsr _ _).readCycleAs _ _).setPc _).endInstr (by omega)
  | rts =>
    exact (((((h.opcodeCycle _).dummyPc.readCycle _).incSp.readCycle _).incSp.readCycle _).setPc
      _).poll.dummyPc.incPc.endInstr (by omega)
  | rti => exact (h.opcodeCycle _).dummyPc.returnFromInterrupt (by omega)
  | brk => exact (h.fetch2 _ _).enterInterrupt (by omega) true
  | jam => exact (h.opcodeCycle _).enterJam (by omega) _

/-- An instruction that runs leaves the invariant. -/
theorem State.Sound.exec {i : Instr} {t : State} (h : s.Sound) (ht : exec i s = .next t) : t.Inv := by
  obtain ⟨op, u, -, hu, hp⟩ := exec_performs i s
  cases hu.symm.trans ht
  exact hp.inv (kindOf_onRegs op) h

/-- What comes next, of a state before a sequence's first cycle or inside it. -/
theorem State.upcoming_sequence (hs : s.upcoming = .irqSequence ∨ s.upcoming = .resetSequence) :
    s.micro.stage ≠ .opcode ∧ s.micro.decodeCycle = 0 := by
  unfold State.upcoming at hs
  split at hs
  · split at hs <;> simp at hs
  · next hc hstage => exact ⟨hstage, hc⟩
  · next hc hstage => exact ⟨hstage, hc⟩
  · simp at hs

/-- An interrupt or reset sequence about to run is at its start. -/
theorem State.Inv.inside_of_upcoming (h : s.Inv) (hs : s.Sound)
    (hu : s.upcoming = .irqSequence ∨ s.upcoming = .resetSequence) : s.Inside 0 := by
  obtain ⟨hstage, hc⟩ := s.upcoming_sequence hu
  exact ⟨hs, h.stage_eq_decode hstage, hc⟩

theorem State.Sound.runInstruction {t : State} (h : s.Sound) (ht : s.runInstruction = .next t) : t.Inv := by
  unfold State.runInstruction at ht
  split at ht
  · exact h.exec ht
  · cases ht

/-- Settles O10: after the checks of R300 the step is idle, one cycle, or a whole sequence, which counts at most eight
cycles before it ends. -/
theorem stepKeepsTheInvariant : Obligations.StepKeepsTheInvariant := by
  intro s t h ht
  unfold step at ht
  rcases h.prelude with ⟨u, e, hu⟩ | ⟨u, e, hu, hs⟩
  · rw [e] at ht
    cases ht
    exact hu.idleCycle
  · rw [e] at ht
    dsimp only at ht
    cases hup : u.upcoming with
    | stall =>
      rw [hup] at ht
      cases ht
      exact hu.stallCycle
    | instruction =>
      rw [hup] at ht
      exact hs.runInstruction ht
    | irqSequence =>
      rw [hup] at ht
      cases ht
      exact (hu.inside_of_upcoming hs (.inl hup)).irqSequence
    | resetSequence =>
      rw [hup] at ht
      cases ht
      exact (hu.inside_of_upcoming hs (.inr hup)).resetSequence
    | cycle =>
      rw [hup] at ht
      cases ht
      exact hu.microCycle hs

end Sys2Proof.Machine
end

section
/-! PROOFS. The registers an instruction leaves: the outcome of its kind, and the frame of its mnemonic (R50 to R53, R58).
And the base case of the invariant. -/

namespace Sys2Proof.Machine

variable {s : State}

/-! ### The registers an instruction leaves -/

@[simp] theorem State.readCycleAs_regs (s : State) (addr : Word) (v : Byte) : (s.readCycleAs addr v).regs = s.regs := rfl

@[simp] theorem State.writeCycle_regs (s : State) (addr : Word) (v : Byte) : (s.writeCycle addr v).regs = s.regs := rfl

@[simp] theorem State.latchOpcode_regs (s : State) (op : Byte) : (s.latchOpcode op).regs = s.regs := rfl

@[simp] theorem State.incPc_regs (s : State) : s.incPc.regs = s.regs := rfl

@[simp] theorem State.setPc_regs (s : State) (w : Word) : (s.setPc w).regs = s.regs := rfl

@[simp] theorem State.poll_regs (s : State) : s.poll.regs = s.regs := by simp [State.regs]

@[simp] theorem State.endInstr_regs (s : State) : s.endInstr.regs = s.regs := by simp [State.regs]

@[simp] theorem State.endTrap_regs (s : State) : s.endTrap.regs = s.regs := by simp [State.regs]

@[simp] theorem State.incSp_regs (s : State) : s.incSp.regs = { s.regs with sp := s.regs.sp + 1 } := rfl

@[simp] theorem State.decSp_regs (s : State) : s.decSp.regs = { s.regs with sp := s.regs.sp - 1 } := rfl

@[simp] theorem State.setI_regs (s : State) : s.setI.regs = { s.regs with p := { s.regs.p with i := true } } := rfl

@[simp] theorem State.decSp_incSp (s : State) : s.decSp.incSp = s := by simp [State.decSp, State.incSp]

/-- The return from an interrupt pulls the flags and moves SP by three (R708). -/
theorem State.returnFromInterrupt_regs (s : State) :
    ∃ v, s.returnFromInterrupt.regs = { s.regs with p := Flags.unpack v, sp := s.sp + 1 + 1 + 1 } := by
  let s3 := (s.readCycle s.stackTop).incSp
  refine ⟨s3.busRead s3.stackTop, ?_⟩
  simp only [State.returnFromInterrupt, State.endInstr_regs, State.setPc_regs, State.readCycle_eq, State.readCycleAs_regs,
    State.incSp_regs, State.poll_regs]
  rfl

theorem State.Heads.regs {u : State} (h : s.Heads u) : u.regs = s.regs := by
  cases h with
  | zp => simp
  | zpIndexed => simp [State.headZpIndexed]
  | abs => simp
  | absRead => unfold State.headAbsRead; split <;> simp [State.headAbsFixed]
  | absFixed => simp [State.headAbsFixed]
  | izx => simp [State.headIzx, State.headZpIndexed]
  | izyRead => unfold State.headIzyRead; split <;> simp [State.headIzyFixed, State.headIzy]
  | izyFixed => simp [State.headIzyFixed, State.headIzy]

/-- What an instruction of a kind does to the registers, given the byte it acts on. -/
def Kind.outcome : Kind → Byte → State → State
  | .push _, _ => State.decSp
  | .pull e, v => fun t => e v t.incSp
  | .jsr, _ => fun t => t.decSp.decSp
  | .rts, _ => fun t => t.incSp.incSp
  | .rti, v => fun t => { t with p := Flags.unpack v }.incSp.incSp.incSp
  | .brk, _ => fun t => t.decSp.decSp.decSp.setI
  | k, v => k.effect v

/-- The registers an instruction leaves are the outcome of its kind, in a state whose registers are as before it. -/
theorem performs_regs {k : Kind} {t : State} (h : Performs s k t) :
    ∃ v u, u.regs = s.regs ∧ t.regs = (k.outcome v u).regs := by
  cases h with
  | @implied op e => exact ⟨0, (s.opcodeCycle op).poll.dummyPc, by simp, by simp [implied, Kind.outcome, Kind.effect]⟩
  | @acc op result e =>
    exact ⟨0, (s.opcodeCycle op).poll.dummyPc, by simp, by simp [accumulator, implied, Kind.outcome, Kind.effect]⟩
  | @imm op imm e =>
    exact ⟨imm, (s.opcodeCycle op).poll.fetchCycle imm, by simp, by simp [immediate, Kind.outcome, Kind.effect]⟩
  | @read m u ea e hu =>
    exact ⟨u.busRead ea, u.poll.readCycle ea, by simp [hu.regs], by simp [State.readTail, Kind.outcome, Kind.effect]⟩
  | write hu => exact ⟨0, s, rfl, by simp [State.writeTail, hu.regs, Kind.outcome, Kind.effect]⟩
  | @rmw m u ea result e hu =>
    let u2 := ((u.readCycle ea).writeCycle ea (u.busRead ea)).poll
    exact ⟨u.busRead ea, u2.writeCycle ea (result (u.busRead ea) u2), by simp [u2, hu.regs],
      by simp [u2, State.modifyTail, Kind.outcome, Kind.effect]⟩
  | @high m u base index reg e hu =>
    exact ⟨0, u.poll.writeCycle (u.highStoreAddr base index (reg u)) (u.highStoreValue base (reg u)), by simp [hu.regs],
      by simp [State.highStoreTail, Kind.outcome, Kind.effect]⟩
  | @branch op offset cond =>
    refine ⟨0, s, rfl, ?_⟩
    unfold branch
    dsimp only
    split
    · split <;> simp [Kind.outcome, Kind.effect]
    · simp [Kind.outcome, Kind.effect]
  | push => exact ⟨0, s, rfl, by simp [push, Kind.outcome]⟩
  | @pull op e =>
    let s3 := ((s.opcodeCycle op).dummyPc.readCycle (s.opcodeCycle op).dummyPc.stackTop).incSp.poll
    exact ⟨s3.busRead s3.stackTop, (s3.readCycle s3.stackTop).decSp, by simp [s3], by simp [s3, pull, Kind.outcome]⟩
  | jmpAbs => exact ⟨0, s, rfl, by simp [jmpAbsolute, Kind.outcome, Kind.effect]⟩
  | jmpInd => exact ⟨0, s, rfl, by simp [jmpIndirect, Kind.outcome, Kind.effect]⟩
  | jsr => exact ⟨0, s, rfl, by simp [jsr, State.headJsr, Kind.outcome]⟩
  | rts => exact ⟨0, s, rfl, by simp [rts, Kind.outcome]⟩
  | @rti op =>
    obtain ⟨v, hv⟩ := (s.opcodeCycle op).dummyPc.returnFromInterrupt_regs
    exact ⟨v, s, rfl, hv⟩
  | brk =>
    exact ⟨0, s, rfl, by
      simp [breakSeq, State.enterInterrupt, State.pushPcAndStatus, State.loadVector, Kind.outcome]⟩
  | jam => exact ⟨0, s, rfl, rfl⟩

/-! ### The writers of the flags (R58) -/

/-- The instructions that write C. -/
def cWriters : List String :=
  ["ADC", "SBC", "CMP", "CPX", "CPY", "ASL", "LSR", "ROL", "ROR", "CLC", "SEC", "PLP", "RTI", "SLO", "RLA", "SRE", "RRA",
   "DCP", "ISC", "ANC", "ALR", "ARR", "SBX", "USBC"]

/-- The instructions that write N and Z. -/
def nzWriters : List String :=
  ["LDA", "LDX", "LDY", "TAX", "TAY", "TXA", "TYA", "TSX", "PLA", "AND", "ORA", "EOR", "ADC", "SBC", "CMP", "CPX", "CPY",
   "BIT", "INC", "DEC", "INX", "INY", "DEX", "DEY", "ASL", "LSR", "ROL", "ROR", "PLP", "RTI", "SLO", "RLA", "SRE", "RRA",
   "LAX", "DCP", "ISC", "ANC", "ALR", "ARR", "ANE", "LXA", "SBX", "USBC", "LAS"]

/-- The instructions that write I. -/
def iWriters : List String := ["CLI", "SEI", "PLP", "RTI", "BRK"]

/-- The instructions that write D. -/
def dWriters : List String := ["CLD", "SED", "PLP", "RTI"]

/-- The instructions that write V. -/
def vWriters : List String := ["ADC", "SBC", "BIT", "CLV", "PLP", "RTI", "RRA", "ISC", "ARR", "USBC"]

/-! ### The writers of A, X, Y and SP (R50 to R53) -/

/-- The instructions that write A. -/
def aWriters : List String :=
  ["LDA", "PLA", "TXA", "TYA", "ADC", "SBC", "AND", "ORA", "EOR", "ASL", "LSR", "ROL", "ROR", "LAX", "LXA", "ANE", "ANC",
   "ALR", "ARR", "SLO", "RLA", "SRE", "RRA", "ISC", "USBC", "LAS"]

/-- The instructions that write X. -/
def xWriters : List String := ["LDX", "TAX", "TSX", "INX", "DEX", "LAX", "LXA", "SBX", "LAS"]

/-- The instructions that write Y. -/
def yWriters : List String := ["LDY", "TAY", "INY", "DEY"]

/-- The instructions that write SP. -/
def spWriters : List String := ["TXS", "TAS", "LAS", "JSR", "RTS", "RTI", "BRK", "PHA", "PHP", "PLA", "PLP"]

/-- The registers `q` that an instruction of a mnemonic may leave of `r`. A field not given when a frame is built is one that
is unchanged by definition. -/
structure Frame (mn : String) (r q : Regs) : Prop where
  a : mn ∉ aWriters → q.a = r.a := by exact fun _ => rfl
  x : mn ∉ xWriters → q.x = r.x := by exact fun _ => rfl
  y : mn ∉ yWriters → q.y = r.y := by exact fun _ => rfl
  sp : mn ∉ spWriters → q.sp = r.sp := by exact fun _ => rfl
  c : mn ∉ cWriters → q.p.c = r.p.c := by exact fun _ => rfl
  nz : mn ∉ nzWriters → q.p.z = r.p.z ∧ q.p.n = r.p.n := by exact fun _ => ⟨rfl, rfl⟩
  i : mn ∉ iWriters → q.p.i = r.p.i := by exact fun _ => rfl
  d : mn ∉ dWriters → q.p.d = r.p.d := by exact fun _ => rfl
  v : mn ∉ vWriters → q.p.v = r.p.v := by exact fun _ => rfl

/-- A frame asks nothing of a field for its writers. -/
theorem written {mn : String} {writers : List String} {p : Prop}
    (h : List.Mem mn writers := by repeat constructor) (hn : mn ∉ writers) : p :=
  absurd h hn

/-- The outcome of each instruction's kind writes no more than R50 to R53 and R58 say. -/
theorem outcome_frame (i : Instr) {op : Byte} (h : (encode i).head? = some op) (v : Byte) (u : State) :
    Frame i.mnemonic u.regs ((kindOf op).outcome v u).regs := by
  cases i with
  | clc | sec =>
    cases h; exact { c := written }
  | cld | sed =>
    cases h; exact { d := written }
  | cli | sei =>
    cases h; exact { i := written }
  | decZp | decAbs | decZpx | decAbx | incZp | incAbs | incZpx | incAbx =>
    cases h; exact { nz := written }
  | php | jsrAbs | pha | rts | txs | tasAby =>
    cases h; exact { sp := written }
  | clv =>
    cases h; exact { v := written }
  | oraIzx | oraZp | oraImm | oraAbs | oraIzy | oraZpx | oraAby | oraAbx | andIzx | andZp | andImm | andAbs | andIzy
  | andZpx | andAby | andAbx | eorIzx | eorZp | eorImm | eorAbs | eorIzy | eorZpx | eorAby | eorAbx | txa | aneImm
  | tya | ldaIzx | ldaZp | ldaImm | ldaAbs | ldaIzy | ldaZpx | ldaAby | ldaAbx =>
    cases h; exact { a := written, nz := written }
  | aslZp | aslAbs | aslZpx | aslAbx | rolZp | rolAbs | rolZpx | rolAbx | lsrZp | lsrAbs | lsrZpx | lsrAbx | rorZp
  | rorAbs | rorZpx | rorAbx | cpyImm | cmpIzx | dcpIzx | cpyZp | cmpZp | dcpZp | cmpImm | cpyAbs | cmpAbs | dcpAbs
  | cmpIzy | dcpIzy | cmpZpx | dcpZpx | cmpAby | dcpAby | cmpAbx | dcpAbx | cpxImm | cpxZp | cpxAbs =>
    cases h; exact { nz := written, c := written }
  | bitZp | bitAbs =>
    cases h; exact { nz := written, v := written }
  | brk =>
    cases h; exact { sp := written, i := written }
  | ldxImm | ldxZp | tax | ldxAbs | ldxZpy | tsx | ldxAby | dex | inx =>
    cases h; exact { x := written, nz := written }
  | dey | ldyImm | ldyZp | tay | ldyAbs | ldyZpx | ldyAbx | iny =>
    cases h; exact { y := written, nz := written }
  | sloIzx | sloZp | aslAcc | ancImm0B | sloAbs | sloIzy | sloZpx | sloAby | sloAbx | rlaIzx | rlaZp | rolAcc
  | ancImm2B | rlaAbs | rlaIzy | rlaZpx | rlaAby | rlaAbx | sreIzx | sreZp | lsrAcc | alrImm | sreAbs | sreIzy | sreZpx
  | sreAby | sreAbx | rorAcc =>
    cases h; exact { a := written, nz := written, c := written }
  | pla =>
    cases h; exact { a := written, sp := written, nz := written }
  | laxIzx | laxZp | lxaImm | laxAbs | laxIzy | laxZpy | laxAby =>
    cases h; exact { a := written, x := written, nz := written }
  | sbxImm =>
    cases h; exact { x := written, nz := written, c := written }
  | adcIzx | rraIzx | adcZp | rraZp | adcImm | arrImm | adcAbs | rraAbs | adcIzy | rraIzy | adcZpx | rraZpx | adcAby
  | rraAby | adcAbx | rraAbx | sbcIzx | iscIzx | sbcZp | iscZp | sbcImm | usbcImm | sbcAbs | iscAbs | sbcIzy | iscIzy
  | sbcZpx | iscZpx | sbcAby | iscAby | sbcAbx | iscAbx =>
    cases h; exact { a := written, nz := written, v := written, c := written }
  | lasAby =>
    cases h; exact { a := written, x := written, sp := written, nz := written }
  | plp | rti =>
    cases h; exact { sp := written, nz := written, v := written, d := written, i := written, c := written }
  -- the stores in every mode, the NOPs, the jumps, the branches and JAM
  | _ => cases h; exact {}

/-- `exec` leaves what its instruction does not write. -/
theorem exec_frame {i : Instr} {t : State} (h : exec i s = .next t) : Frame i.mnemonic s.regs t.regs := by
  obtain ⟨op, t', hop, ht, hp⟩ := exec_performs i s
  cases ht.symm.trans h
  obtain ⟨v, u, hu, hr⟩ := performs_regs hp
  rw [← hu, hr]
  exact outcome_frame i hop v u

/-- Settles O41: the flags of the frame of `exec`. -/
theorem onlyItsWritersChangeAFlag : Obligations.OnlyItsWritersChangeAFlag := by
  intro i s t h
  have hf := exec_frame h
  exact ⟨hf.c, hf.nz, hf.i, hf.d, hf.v⟩

/-- Settles O42: the registers of the frame of `exec`. -/
theorem onlyItsWritersChangeARegister : Obligations.OnlyItsWritersChangeARegister := by
  intro i s t h
  have hf := exec_frame h
  exact ⟨hf.a, hf.x, hf.y, hf.sp⟩

/-! ### The base case of the invariant -/

/-- Settles O12: both states are at a boundary, with an empty memory, as many transactions as cycles and no fault record. -/
theorem invariantAtPowerOnAndReset : Obligations.InvariantAtPowerOnAndReset where
  left :=
    { memory := rfl, counted := rfl, cycles := by decide, unfinished := nofun, noExecute := nofun, held := fun _ => rfl
      pending := fun _ => ⟨rfl, rfl⟩, jam := nofun, faults := nofun }
  right :=
    { memory := State.reset_mem_wf, counted := rfl, cycles := by decide, unfinished := nofun, noExecute := nofun
      held := nofun, pending := nofun, jam := nofun, faults := nofun }

end Sys2Proof.Machine
end

section
/-! PROOFS. The transactions of each kind of instruction, and what they leave of memory (R102, R103). -/

namespace Sys2Proof.Machine

variable {s : State}

/-! ### The transactions of an instruction -/

/-- The kinds of instructions with a write cycle. -/
def Kind.stores : Kind → Bool
  | .write _ _ | .rmw _ _ _ | .high _ _ _ | .push _ | .jsr | .brk => true
  | _ => false

theorem Kind.OnRegs.after {k : Kind} (hk : k.OnRegs) (v : Byte) (t : State) : After t (k.effect v t) [] := by
  rw [hk v t]
  exact .withRegs t _

theorem After.withFlags (s : State) (f : Flags) : After s { s with p := f } [] := .withRegs s { s.regs with p := f }

theorem After.dummyPc (s : State) : After s s.dummyPc [rd s.pc (s.busRead s.pc)] := .read s _ _

theorem AtOperand.exists_after {t : State} {m : Access} (h : AtOperand s t m) :
    ∃ bus, After s t bus ∧ ∀ b ∈ bus, b.2.1 = Rw.read := ⟨_, h.after, h.reads⟩

/-- The cycles before the operand's only read. -/
theorem State.Heads.exists_after {u : State} (h : s.Heads u) : ∃ bus, After s u bus ∧ ∀ b ∈ bus, b.2.1 = Rw.read := by
  cases h with
  | zp => exact (atOperand_zp s _ _).exists_after
  | zpIndexed => exact (atOperand_zpIndexed s _ _ 0).exists_after
  | abs => exact (atOperand_abs s _ _).exists_after
  | absRead => exact (atOperand_absRead s _ _ _).exists_after
  | absFixed => exact (atOperand_absFixed s _ _ _).exists_after
  | izx => exact (atOperand_izx s _ _).exists_after
  | izyRead => exact (atOperand_izyRead s _ _).exists_after
  | izyFixed => exact (atOperand_izyFixed s _ _).exists_after

theorem exists_after_headJsr (s : State) (op lo : Byte) : ∃ bus, After s (s.headJsr op lo) bus :=
  ⟨_, (((((After.opcode s op).trans (.fetch _ lo)).trans (.read _ _ _)).trans (.push _ _)).trans (.push _ _)).trans
    (.poll _)⟩

theorem exists_after_loadVector (s : State) (lo hi : Word) : ∃ bus, After s (s.loadVector lo hi) bus :=
  ⟨_, (((((After.read s lo _).trans (.setI _)).trans (.poll _)).trans (.read _ hi _)).trans (.setPc _ _)).trans
    (.endTrap _)⟩

theorem exists_after_enterInterrupt (s : State) (b : Bool) : ∃ bus, After s (s.enterInterrupt b) bus := by
  obtain ⟨bus, h⟩ := exists_after_loadVector (s.pushPcAndStatus b) irqVectorLo irqVectorHi
  exact ⟨_, (((After.push s _).trans (.push _ _)).trans (.push _ _)).trans h⟩

/-- The return from an interrupt reads three times more (R708). -/
theorem exists_after_returnFromInterrupt (s : State) :
    ∃ bus, After s s.returnFromInterrupt bus ∧ ∀ b ∈ bus, b.2.1 = Rw.read := by
  refine ⟨_, ((((((((((After.read s _ _).trans (.incSp _)).trans (.read _ _ _)).trans (.withFlags _ _)).trans
    (.incSp _)).trans (.read _ _ _)).trans (.incSp _)).trans (.poll _)).trans (.read _ _ _)).trans (.setPc _ _)).trans
    (.endInstr _), ?_⟩
  simp [rd]

/-- A branch only reads, taken or not (R362). -/
theorem exists_after_branch (s : State) (op offset : Byte) (cond : Flags → Bool) :
    ∃ bus, After s (branch op offset cond s) bus ∧ ∀ b ∈ bus, b.2.1 = Rw.read := by
  have h2 := ((After.opcode s op).trans (.poll _)).trans (.fetch _ offset)
  unfold branch
  dsimp only
  split
  · have h3 := h2.trans (.dummyPc _)
    split
    · exact ⟨_, (h3.trans (.setPc _ _)).trans (.endInstr _), by simp [rd]⟩
    · exact ⟨_, ((((h3.trans (.setPc _ _)).trans (.poll _)).trans (.dummyPc _)).trans (.setPc _ _)).trans (.endInstr _),
        by simp [rd]⟩
  · exact ⟨_, h2.trans (.endInstr _), by simp [rd]⟩

/-- An instruction leaves the state after its transactions, jammed if it is a JAM; only the storing kinds have a write. -/
theorem Performs.after {k : Kind} {t : State} (ht : Performs s k t) (hk : k.OnRegs) :
    ∃ u bus, (t = u ∨ ∃ op, t = u.enterJam op) ∧ After s u bus ∧ (k.stores = false → ∀ b ∈ bus, b.2.1 = Rw.read) := by
  have he := hk.after
  cases ht with
  | implied =>
    exact ⟨_, _, .inl rfl, ((((After.opcode s _).trans (.poll _)).trans (.dummyPc _)).trans (he 0 _)).trans (.endInstr _),
      by simp [rd]⟩
  | acc =>
    exact ⟨_, _, .inl rfl, ((((After.opcode s _).trans (.poll _)).trans (.dummyPc _)).trans (he 0 _)).trans (.endInstr _),
      by simp [rd]⟩
  | imm =>
    exact ⟨_, _, .inl rfl, ((((After.opcode s _).trans (.poll _)).trans (.fetch _ _)).trans (he _ _)).trans (.endInstr _),
      by simp [rd]⟩
  | read hu =>
    obtain ⟨bus, h, hr⟩ := hu.exists_after
    exact ⟨_, _, .inl rfl, (((h.trans (.poll _)).trans (.read _ _ _)).trans (he _ _)).trans (.endInstr _),
      fun _ => by simpa [rd, or_imp, forall_and] using hr⟩
  | write hu =>
    obtain ⟨bus, h, -⟩ := hu.exists_after
    exact ⟨_, _, .inl rfl, ((h.trans (.poll _)).trans (.write _ _ _)).trans (.endInstr _), nofun⟩
  | rmw hu =>
    obtain ⟨bus, h, -⟩ := hu.exists_after
    exact ⟨_, _, .inl rfl, (((((h.trans (.read _ _ _)).trans (.write _ _ _)).trans (.poll _)).trans (.write _ _ _)).trans
      (he _ _)).trans (.endInstr _), nofun⟩
  | high hu =>
    obtain ⟨bus, h, -⟩ := hu.exists_after
    exact ⟨_, _, .inl rfl, (((h.trans (.poll _)).trans (.write _ _ _)).trans (he 0 _)).trans (.endInstr _), nofun⟩
  | branch =>
    obtain ⟨bus, h, hr⟩ := exists_after_branch s _ _ _
    exact ⟨_, bus, .inl rfl, h, fun _ => hr⟩
  | push =>
    exact ⟨_, _, .inl rfl, ((((After.opcode s _).trans (.dummyPc _)).trans (.poll _)).trans (.push _ _)).trans
      (.endInstr _), nofun⟩
  | pull =>
    exact ⟨_, _, .inl rfl, (((((((After.opcode s _).trans (.dummyPc _)).trans (.read _ _ _)).trans (.incSp _)).trans
      (.poll _)).trans (.read _ _ _)).trans (he _ _)).trans (.endInstr _), by simp [rd]⟩
  | jmpAbs =>
    exact ⟨_, _, .inl rfl, (((((After.opcode s _).trans (.fetch _ _)).trans (.poll _)).trans (.read _ _ _)).trans
      (.setPc _ _)).trans (.endInstr _), by simp [rd]⟩
  | jmpInd =>
    exact ⟨_, _, .inl rfl, (((((((After.opcode s _).trans (.fetch _ _)).trans (.fetch _ _)).trans (.read _ _ _)).trans
      (.poll _)).trans (.read _ _ _)).trans (.setPc _ _)).trans (.endInstr _), by simp [rd]⟩
  | jsr =>
    obtain ⟨bus, h⟩ := exists_after_headJsr s _ _
    exact ⟨_, _, .inl rfl, ((h.trans (.read _ _ _)).trans (.setPc _ _)).trans (.endInstr _), nofun⟩
  | rts =>
    exact ⟨_, _, .inl rfl, ((((((((((After.opcode s _).trans (.dummyPc _)).trans (.read _ _ _)).trans (.incSp _)).trans
      (.read _ _ _)).trans (.incSp _)).trans (.read _ _ _)).trans (.setPc _ _)).trans (.poll _)).trans
      (.fetch _ _)).trans (.endInstr _), by simp [rd]⟩
  | rti =>
    obtain ⟨bus, h, hr⟩ := exists_after_returnFromInterrupt (s.opcodeCycle _).dummyPc
    exact ⟨_, _, .inl rfl, ((After.opcode s _).trans (.dummyPc _)).trans h,
      fun _ => by simpa [rd, or_imp, forall_and] using hr⟩
  | brk =>
    obtain ⟨bus, h⟩ := exists_after_enterInterrupt (s.fetch2 _ _) true
    exact ⟨_, _, .inl rfl, ((After.opcode s _).trans (.fetch _ _)).trans h, nofun⟩
  | jam => exact ⟨_, _, .inr ⟨_, rfl⟩, .opcode s _, by simp [rd]⟩

/-- What `exec` does, by the kind of the opcode. -/
theorem exec_after {i : Instr} {t : State} (h : exec i s = .next t) :
    ∃ op u bus, (encode i).head? = some op ∧ (t = u ∨ ∃ op, t = u.enterJam op) ∧ After s u bus ∧
      ((kindOf op).stores = false → ∀ b ∈ bus, b.2.1 = Rw.read) := by
  obtain ⟨op, t', hop, ht, hp⟩ := exec_performs i s
  cases ht.symm.trans h
  obtain ⟨u, bus, hu⟩ := hp.after (kindOf_onRegs op)
  exact ⟨op, u, bus, hop, hu⟩

/-! ### What the transactions leave of memory -/

/-- A byte that no write of a list of transactions addresses is as before. -/
theorem State.byteAfter_of_not_written (s : State) {a : Nat} {bus : List Bus}
    (h : ∀ b ∈ bus, b.2.1 = Rw.write → b.1.toNat ≠ a) (v : Byte) : s.byteAfter a bus v = v := by
  induction bus generalizing v with
  | nil => rfl
  | cons b rest ih =>
    have hb : ¬ (b.2.1 = Rw.write ∧ b.1.toNat = a ∧ s.keeps b.1 = true) := fun ⟨hw, ha, _⟩ => h b (by simp) hw ha
    rw [State.byteAfter, if_neg hb, ih fun x hx => h x (by simp [hx])]

/-- The instructions with a write cycle in some mode. -/
def memWriters : List String :=
  ["STA", "STX", "STY", "SAX", "SHA", "SHX", "SHY", "TAS", "PHA", "PHP", "JSR", "BRK", "ASL", "LSR", "ROL", "ROR", "INC",
   "DEC", "SLO", "RLA", "SRE", "RRA", "DCP", "ISC"]

/-- An instruction of a storing kind is one of them. -/
theorem mem_memWriters_of_stores (i : Instr) {op : Byte} (h : (encode i).head? = some op)
    (hs : (kindOf op).stores = true) : i.mnemonic ∈ memWriters := by
  cases i with
  | staIzx | staZp | staAbs | staIzy | staZpx | staAby | staAbx | stxZp | stxAbs | stxZpy | styZp | styAbs | styZpx | saxIzx
  | saxZp | saxAbs | saxZpy | shaIzy | shaAby | shxAby | shyAbx | tasAby | pha | php | jsrAbs | brk | aslZp | aslAbs
  | aslZpx | aslAbx | lsrZp | lsrAbs | lsrZpx | lsrAbx | rolZp | rolAbs | rolZpx | rolAbx | rorZp | rorAbs | rorZpx
  | rorAbx | incZp | incAbs | incZpx | incAbx | decZp | decAbs | decZpx | decAbx | sloIzx | sloZp | sloAbs | sloIzy
  | sloZpx | sloAby | sloAbx | rlaIzx | rlaZp | rlaAbs | rlaIzy | rlaZpx | rlaAby | rlaAbx | sreIzx | sreZp | sreAbs
  | sreIzy | sreZpx | sreAby | sreAbx | rraIzx | rraZp | rraAbs | rraIzy | rraZpx | rraAby | rraAbx | dcpIzx | dcpZp
  | dcpAbs | dcpIzy | dcpZpx | dcpAby | dcpAbx | iscIzx | iscZp | iscAbs | iscIzy | iscZpx | iscAby | iscAbx =>
    simp [Instr.mnemonic, memWriters]
  -- no other kind has a write cycle
  | _ => cases h; exact absurd hs Bool.false_ne_true

/-- Settles O43: the instruction's transactions are all that changes memory, and only the storing kinds write. -/
theorem onlyStoringInstructionsChangeMemory : Obligations.OnlyStoringInstructionsChangeMemory := by
  intro i s t hwf h
  obtain ⟨op, u, bus, hop, ht, hu, hr⟩ := exec_after h
  have hmem : t.mem = u.mem := by rcases ht with rfl | ⟨_, rfl⟩ <;> rfl
  have htrace : t.trace = u.trace := by rcases ht with rfl | ⟨_, rfl⟩ <;> rfl
  refine ⟨fun hn => ?_, (bus.map s.txn).reverse, htrace.trans hu.trace, fun a ha => ?_⟩
  · have hs : (kindOf op).stores = false := by
      rw [← Bool.not_eq_true]
      exact fun hs => hn (mem_memWriters_of_stores i hop hs)
    exact hmem.trans (hu.quiet (hr hs))
  · rw [hmem, hu.mem (.inl hwf)]
    exact s.byteAfter_of_not_written (fun b hb => ha (s.txn b) (by simpa using ⟨_, _, _, hb, rfl⟩)) _

end Sys2Proof.Machine
end

section
/-! PROOFS. Fetching: the bytes a step decodes are those that memory holds from PC on, and the decoder gives back the
instruction they encode (R105, R118, R150). -/

namespace Sys2Proof

/-! ### Decoding an encoded instruction -/

/-- The family `Encoding`, for any instruction. -/
theorem Laws.encoding_statement (i : Instr) : Laws.Encoding.Statement i := by
  cases i with
  | jam02 | php | aslAcc | jam12 | clc | nop1A | jam22 | plp | rolAcc | jam32 | sec | nop3A | rti | jam42 | pha | lsrAcc
  | jam52 | cli | nop5A | rts | jam62 | pla | rorAcc | jam72 | sei | nop7A | dey | txa | jam92 | tya | txs | tay | tax
  | jamB2 | clv | tsx | iny | dex | jamD2 | cld | nopDA | inx | nop | jamF2 | sed | nopFA => exact ⟨_, _, rfl, rfl, rfl⟩
  -- one operand byte, or two
  | _ => exact ⟨_, _, rfl, _, rfl, rfl⟩

/-- The decoder gives back an encoded instruction, and what follows it (R150). -/
theorem decode_encode_append (i : Instr) (rest : List Byte) : decode (encode i ++ rest) = .ok (i, rest) := by
  obtain ⟨op, operands, he, h⟩ := Laws.encoding_statement i
  rw [he]
  cases hop : entryOf op with
  | none => simp [hop] at h
  | some entry =>
    cases entry with
    | f1 j =>
      obtain ⟨rfl, rfl⟩ : operands = [] ∧ j = i := by simpa [hop] using h
      simp [decode, hop]
    | f2 make =>
      obtain ⟨b, rfl, rfl⟩ : ∃ b : Byte, operands = [b] ∧ make b = i := by simpa [hop] using h
      simp [decode, hop]
    | f3 make =>
      obtain ⟨a, rfl, rfl⟩ : ∃ a : Word, operands = addrBytes a ∧ make a = i := by simpa [hop] using h
      have ha : a.extractLsb' 8 8 ++ a.extractLsb' 0 8 = a :=
        (BitVec.extractLsb'_append_extractLsb'_eq_extractLsb' (show 8 = 0 + 8 from rfl)).trans BitVec.extractLsb'_eq_self
      simp [decode, hop, addrBytes, ha]

/-- An instruction is at most three bytes long (R150). -/
theorem encode_length_le (i : Instr) : (encode i).length ≤ 3 := by
  obtain ⟨op, operands, he, h⟩ := Laws.encoding_statement i
  rw [he]
  split at h
  · simp [h.1]
  · obtain ⟨b, rfl, -⟩ := h
    simp
  · obtain ⟨a, rfl, -⟩ := h
    simp [addrBytes]
  · exact h.elim

namespace Machine

variable {s : State}

/-! ### The bytes a step fetches -/

/-- With AEC high, a read that RAM or ROM answers returns memory's byte (R103). -/
theorem State.busRead_of_answered {addr : Word} (ha : s.aecLow = false) (hr : s.regionAt addr ≠ .external) :
    s.busRead addr = s.mem.read addr.toNat := by
  unfold State.busRead
  cases e : s.regionAt addr with
  | external => exact absurd e hr
  | ram | rom => simp [ha]

/-- The same in a later state with the same outside and memory. -/
theorem State.SameOutside.busRead_of_answered {t : State} {addr : Word} (h : s.SameOutside t) (hm : t.mem = s.mem)
    (ha : s.aecLow = false) (hr : s.regionAt addr ≠ .external) : t.busRead addr = s.mem.read addr.toNat := by
  rw [State.busRead_of_answered (h.aecLow.trans ha) (h.regionAt addr ▸ hr), hm]

/-- The bytes that the fetches of the next instruction find in memory, where it answers at PC and the two addresses after
it. -/
theorem State.fetchBytes_of_answered (ha : s.aecLow = false)
    (hr : ∀ k : Nat, k < 3 → s.regionAt (s.pc + BitVec.ofNat 16 k) ≠ .external) :
    s.fetchBytes = (List.range 3).map fun k => s.mem.read (s.pc + BitVec.ofNat 16 k).toNat := by
  have first : s.busRead s.pc = s.mem.read (s.pc + BitVec.ofNat 16 0).toNat := by
    simpa using State.busRead_of_answered ha (hr 0 (by omega))
  have second (op : Byte) : (s.opcodeCycle op).busRead (s.pc + 1) = s.mem.read (s.pc + BitVec.ofNat 16 1).toNat :=
    (After.opcode s op).outside.busRead_of_answered rfl ha (hr 1 (by omega))
  have third (op b : Byte) : s.thirdByte op b = s.mem.read (s.pc + BitVec.ofNat 16 2).toNat := by
    unfold State.thirdByte
    split
    · obtain ⟨bus, h⟩ := exists_after_headJsr s op b
      have hout : s.SameOutside { s.headJsr op b with mem := s.mem } := { h.outside with }
      exact hout.busRead_of_answered rfl ha (hr 2 (by omega))
    · exact (atOperand_zp s op b).after.outside.busRead_of_answered rfl ha (hr 2 (by omega))
  simp only [State.fetchBytes, first, second, third]
  rfl

/-! ### The step at a ready boundary -/

/-- A step about to fetch, with nothing pending, runs an instruction (R300). -/
theorem State.Ready.step_eq (h : s.Ready) : step s = { s with resetHeld := false }.runInstruction := by
  simp [step, s.prelude_ready h, s.upcoming_ready h]

/-- Settles O6: the fetched bytes are memory's from PC on, of which the instruction's bytes are the first; decoding gives the
instruction back. -/
theorem instructionInMemoryRuns : Obligations.InstructionInMemoryRuns := by
  intro s i hs haec hr hm
  have hfetch : { s with resetHeld := false }.fetchBytes =
      (List.range 3).map fun k => s.mem.read (s.pc + BitVec.ofNat 16 k).toNat :=
    State.fetchBytes_of_answered (s := { s with resetHeld := false }) (by simp [State.aecLow, haec]) hr
  have hprefix : encode i <+: { s with resetHeld := false }.fetchBytes := by
    rw [List.prefix_iff_getElem?]
    intro k hk
    have hk3 : k < 3 := hk.trans_le (encode_length_le i)
    rw [← List.getElem?_eq_getElem hk, hm k hk, hfetch]
    simp [hk3]
  obtain ⟨rest, hrest⟩ := hprefix
  rw [hs.step_eq, State.runInstruction, ← hrest, decode_encode_append]

end Machine
end Sys2Proof
end

section
/-! PROOFS. A micro-cycle step is idle or one transaction: the checks before it and the rows' operations after it touch
nothing that only a transaction changes (R102, R305). -/

namespace Sys2Proof.Machine

variable {s : State}

/-! ### What only a transaction changes -/

/-- What only a transaction changes of a state, and whether a reset is pending. -/
structure BusView where
  cycleCounter : Nat
  trace : List Txn
  mem : Memory
  platform : Nat
  resetPending : Bool

/-- The view of a state. -/
def State.busView (s : State) : BusView := ⟨s.cycleCounter, s.trace, s.mem, s.platform, s.resetPending⟩

/-- An update that performs no transaction leaves the view. -/
theorem After.busView {t : State} (h : After s t []) : t.busView = s.busView := by
  have hp : t.platform = s.platform := by simpa [State.platformAfter] using h.platform
  simp [State.busView, h.counter, h.trace, h.quiet (by simp), hp, h.outside.resetPending]

@[simp] theorem State.incPc_busView (s : State) : s.incPc.busView = s.busView := rfl

@[simp] theorem State.setPc_busView (s : State) (w : Word) : (s.setPc w).busView = s.busView := rfl

@[simp] theorem State.incSp_busView (s : State) : s.incSp.busView = s.busView := rfl

@[simp] theorem State.decSp_busView (s : State) : s.decSp.busView = s.busView := rfl

@[simp] theorem State.setI_busView (s : State) : s.setI.busView = s.busView := rfl

@[simp] theorem State.withFlags_busView (s : State) (f : Flags) : { s with p := f }.busView = s.busView := rfl

@[simp] theorem State.latchOpcode_busView (s : State) (op : Byte) : (s.latchOpcode op).busView = s.busView := rfl

@[simp] theorem State.enterJam_busView (s : State) (op : Byte) : (s.enterJam op).busView = s.busView := rfl

@[simp] theorem State.latchLo_busView (s : State) (v : Byte) : (s.latchLo v).busView = s.busView := rfl

@[simp] theorem State.latchHi_busView (s : State) (v : Byte) : (s.latchHi v).busView = s.busView := rfl

@[simp] theorem State.latchPtr_busView (s : State) (v : Byte) : (s.latchPtr v).busView = s.busView := rfl

@[simp] theorem State.latchEa_busView (s : State) (a : Word) : (s.latchEa a).busView = s.busView := rfl

@[simp] theorem State.latchOperand_busView (s : State) (v : Byte) : (s.latchOperand v).busView = s.busView := rfl

@[simp] theorem State.latchOffset_busView (s : State) (v : Byte) : (s.latchOffset v).busView = s.busView := rfl

@[simp] theorem State.poll_busView (s : State) : s.poll.busView = s.busView := (After.poll s).busView

@[simp] theorem State.endInstr_busView (s : State) : s.endInstr.busView = s.busView := (After.endInstr s).busView

@[simp] theorem State.endTrap_busView (s : State) : s.endTrap.busView = s.busView := (After.endTrap s).busView

@[simp] theorem State.pollIf_busView (s : State) (now : Bool) : (s.pollIf now).busView = s.busView := by
  cases now <;> simp [State.pollIf]

/-! ### The rows' operations -/

/-- The end of the row's cycle changes nothing that only a transaction changes. -/
def Row.Silent : Row → Prop
  | .read _ after => ∀ v t, (after v t).busView = t.busView
  | .write _ _ after => ∀ t, (after t).busView = t.busView

theorem Row.Silent.andThen {r : Row} {f : State → State} (h : r.Silent) (hf : ∀ t, (f t).busView = t.busView) :
    (r.andThen f).Silent := by
  cases r with
  | read addr after => exact fun v t => (hf _).trans (h v t)
  | write addr v after => exact fun t => (hf _).trans (h t)

theorem headRow_silent (m : MemMode) (c : Nat) (s : State) : (headRow m c s).Silent := by
  unfold headRow
  split <;> simp [Row.Silent, fetchRow, dummyRow]

theorem oneCycleOperand_silent (m : MemMode) (forced : Bool) {last : Row} (h : last.Silent) (c : Nat) (s : State) :
    (oneCycleOperand m forced last c s).Silent := by
  unfold oneCycleOperand
  split
  · exact (headRow_silent m c s).andThen fun t => t.pollIf_busView _
  · exact h

theorem modifyRow_silent (m : MemMode) (result : Byte → State → Byte) {effect : Byte → State → State}
    (he : ∀ v t, (effect v t).busView = t.busView) (c : Nat) (s : State) : (modifyRow m result effect c s).Silent := by
  unfold modifyRow
  dsimp only
  split
  · exact headRow_silent m c s
  · split
    · simp [Row.Silent]
    · split <;> simp [Row.Silent, he]

theorem branchRow_silent (cond : Flags → Bool) (c : Nat) (s : State) : (branchRow cond c s).Silent := by
  unfold branchRow
  split
  · intro v t
    dsimp only
    split <;> simp
  · intro v t
    dsimp only
    split <;> simp
  · simp [Row.Silent, dummyRow]

theorem vectorRow_silent (lo hi : Word) (c : Nat) : (vectorRow lo hi c).Silent := by
  unfold vectorRow
  split <;> simp [Row.Silent]

theorem trapRow_silent (b : Bool) (c : Nat) (s : State) : (trapRow b c s).Silent := by
  unfold trapRow
  split
  case h_4 => exact vectorRow_silent _ _ c
  all_goals simp [Row.Silent]

theorem irqRow_silent (c : Nat) (s : State) : (irqRow c s).Silent := by
  unfold irqRow
  split
  case h_3 => exact trapRow_silent false c s
  all_goals simp [Row.Silent, dummyRow]

theorem resetRow_silent (c : Nat) (s : State) : (resetRow c s).Silent := by
  unfold resetRow
  split
  case h_6 => exact vectorRow_silent _ _ c
  all_goals simp [Row.Silent, dummyRow]

/-- Every row of an instruction, its operation changing only registers. -/
theorem instrRow_silent {k : Kind} (hk : k.OnRegs) (c : Nat) (s : State) : (instrRow k c s).Silent := by
  have he (v : Byte) (t : State) : (k.effect v t).busView = t.busView := (hk.after v t).busView
  cases k with
  | implied e => exact fun v t => (State.endInstr_busView _).trans (he v t)
  | acc result e => exact fun v t => (State.endInstr_busView _).trans (he v t)
  | imm e => exact fun v t => (State.endInstr_busView _).trans (he v _)
  | read m e =>
    refine oneCycleOperand_silent m false ?_ c s
    exact fun v t => (State.endInstr_busView _).trans (he v t)
  | write m value =>
    refine oneCycleOperand_silent m true ?_ c s
    exact State.endInstr_busView
  | rmw m result e => exact modifyRow_silent m result he c s
  | high m reg e =>
    refine oneCycleOperand_silent m true ?_ c s
    exact fun t => (State.endInstr_busView _).trans (he 0 t)
  | branch cond => exact branchRow_silent cond c s
  | push value =>
    simp only [instrRow, pushRow]
    split <;> simp [Row.Silent, dummyRow]
  | pull e =>
    simp only [instrRow, pullRow]
    split
    case h_3 => exact fun v t => (State.endInstr_busView _).trans (he v t)
    all_goals simp [Row.Silent, dummyRow]
  | jmpAbs =>
    simp only [instrRow, jmpAbsRow]
    split <;> simp [Row.Silent, fetchRow]
  | jmpInd =>
    simp only [instrRow, jmpIndRow]
    split <;> simp [Row.Silent, fetchRow]
  | jsr =>
    simp only [instrRow, jsrRow]
    split <;> simp [Row.Silent, fetchRow, dummyRow]
  | rts =>
    simp only [instrRow, rtsRow]
    split <;> simp [Row.Silent, dummyRow]
  | rti =>
    simp only [instrRow, rtiRow]
    split <;> simp [Row.Silent, dummyRow]
  | brk =>
    simp only [instrRow, brkRow]
    split
    · simp [Row.Silent, fetchRow]
    · exact trapRow_silent true c s
  | jam => exact fun v t => State.endInstr_busView t

theorem afterOpcode_busView (op : Byte) (t : State) : (afterOpcode op t).busView = t.busView := by
  unfold afterOpcode
  split <;> simp

/-- The row of the next cycle, whatever the state. -/
theorem State.currentRow_silent (s : State) : s.currentRow.Silent := by
  unfold State.currentRow
  split
  · exact fun v t => afterOpcode_busView v _
  · split
    · exact instrRow_silent (kindOf_onRegs _) _ s
    · exact irqRow_silent _ s
    · exact resetRow_silent _ s

/-! ### One micro-cycle -/

/-- A micro-cycle is a stall, with RDY low, or one read or write cycle. -/
theorem State.microCycle_cases (s : State) :
    s.microCycle = s.stallCycle ∨
    (∃ addr, s.rdyLow = false ∧ s.microCycle.busView = (s.readCycle addr).busView) ∨
    ∃ addr v, s.microCycle.busView = (s.writeCycle addr v).busView := by
  have hrow := s.currentRow_silent
  unfold State.microCycle
  cases e : s.currentRow with
  | read addr after =>
    rw [e] at hrow
    cases hr : s.rdyLow with
    | true => exact .inl (by simp)
    | false => exact .inr (.inl ⟨addr, rfl, by simpa using hrow _ _⟩)
  | write addr v after =>
    rw [e] at hrow
    exact .inr (.inr ⟨addr, v, hrow _⟩)

/-- The checks of R300 change only the halt flags, the latches and the micro-state. -/
theorem State.prelude_frame {t : State} (h : s.prelude = .idle t ∨ s.prelude = .run t) :
    ∃ held pending jam irq micro, t = { s with
      resetHeld := held, resetPending := pending, jammed := jam, irqPending := irq, micro := micro } := by
  unfold State.prelude at h
  split at h
  · obtain h | h := h <;> cases h
    exact ⟨_, _, _, _, _, rfl⟩
  · dsimp only at h
    repeat' split at h
    all_goals
      obtain h | h := h <;> cases h
      exact ⟨_, _, _, _, _, rfl⟩

/-- Settles O18: the checks of R300 leave what the step's one cycle reads, and the cycle is a stall, a read or a write, whose
row's operation leaves what it changed. -/
theorem microStepIsOneTransactionOrIdle : Obligations.MicroStepIsOneTransactionOrIdle := by
  intro s
  dsimp only
  cases e : s.prelude with
  | idle t =>
    obtain ⟨_, _, _, _, _, rfl⟩ := State.prelude_frame (.inl e)
    left
    simp only [microStep, e]
    exact ⟨rfl, rfl, rfl, rfl, rfl, rfl, rfl, rfl⟩
  | run t =>
    have hstep : microStep s = t.microCycle := by simp only [microStep, e]
    rw [hstep]
    obtain ⟨_, _, _, _, _, rfl⟩ := State.prelude_frame (.inr e)
    rcases State.microCycle_cases _ with h | ⟨addr, hrdy, h⟩ | ⟨addr, v, h⟩
    · left
      rw [h]
      exact ⟨rfl, rfl, rfl, rfl, rfl, rfl, rfl, rfl⟩
    · right
      refine ⟨_, congrArg BusView.trace h, congrArg BusView.cycleCounter h, rfl, congrArg BusView.platform h, ?_, ?_, nofun⟩
      · exact fun hl => Bool.noConfusion (hl.symm.trans hrdy)
      · exact fun _ => ⟨rfl, congrArg BusView.mem h⟩
    · right
      exact ⟨_, congrArg BusView.trace h, congrArg BusView.cycleCounter h, rfl, congrArg BusView.platform h, fun _ => rfl,
        nofun, fun _ => congrArg BusView.mem h⟩

end Sys2Proof.Machine
end

section
/-! PROOFS. The image load (R113): when it is refused, and what it stores. -/

namespace Sys2Proof.Machine

variable {s : State} {base : Word} {bytes : List Byte}

/-! ### When a load is refused -/

/-- While halted or before execution a load stores the image. -/
theorem run_load (h : s.isHalted = true ∨ s.beforeExecution = true) :
    (load base bytes).run s = .ok () (s.storeImage base bytes) := by
  simp [load, EStateM.run, bind, EStateM.bind, get, getThe, MonadStateOf.get, EStateM.get, h, set, MonadStateOf.set,
    EStateM.set]

/-- At any other time it is refused. -/
theorem run_load_refused (hh : s.isHalted = false) (hb : s.beforeExecution = false) :
    (load base bytes).run s = .error (.refusal .loadWhileRunning) s := by
  simp [load, EStateM.run, bind, EStateM.bind, get, getThe, MonadStateOf.get, EStateM.get, hh, hb, refuse, throw, throwThe,
    MonadExceptOf.throw, EStateM.throw]

/-- With no reset pending execution has begun. -/
theorem State.beforeExecution_of_noReset (h : s.resetPending = false) : s.beforeExecution = false := by
  simp [State.beforeExecution, h]

/-! ### After a step that does not leave the CPU halted no reset is pending -/

/-- The checks of R300 let a cycle run only with no reset pending. -/
theorem State.Inv.prelude_noReset {t : State} (h : s.Inv) (e : s.prelude = .run t) : t.resetPending = false :=
  (State.prelude_run e fun hp => (h.pending hp).1).2

/-- A micro-cycle leaves a pending reset as it is. -/
theorem State.microCycle_resetPending (s : State) : s.microCycle.resetPending = s.resetPending := by
  rcases s.microCycle_cases with h | ⟨addr, -, h⟩ | ⟨addr, v, h⟩
  · rw [h]; rfl
  · exact congrArg BusView.resetPending h
  · exact congrArg BusView.resetPending h

theorem exec_resetPending {i : Instr} {t : State} (h : exec i s = .next t) : t.resetPending = s.resetPending := by
  obtain ⟨op, u, bus, -, ht, hu, -⟩ := exec_after h
  have htu : t.resetPending = u.resetPending := by rcases ht with rfl | ⟨_, rfl⟩ <;> rfl
  exact htu.trans hu.outside.resetPending

theorem State.irqSequence_resetPending (s : State) : s.irqSequence.resetPending = s.resetPending := by
  simp [State.irqSequence, State.enterInterrupt, State.pushPcAndStatus, State.loadVector]

theorem State.resetSequence_resetPending (s : State) : s.resetSequence.resetPending = s.resetPending := by
  simp [State.resetSequence, State.suppressedPush, State.loadVector]

@[simp] theorem State.idleCycle_isHalted (s : State) : s.idleCycle.isHalted = s.isHalted := rfl

theorem State.Inv.microStep_noReset (h : s.Inv) (hr : (microStep s).isHalted = false) :
    (microStep s).resetPending = false := by
  cases e : s.prelude with
  | idle t =>
    have ht : (microStep s).isHalted = true := by simpa [microStep, e] using State.prelude_idle e
    simp [ht] at hr
  | run t => simpa [microStep, e, State.microCycle_resetPending] using h.prelude_noReset e

theorem State.Inv.step_noReset {t : State} (h : s.Inv) (ht : step s = .next t) (hr : t.isHalted = false) :
    t.resetPending = false := by
  unfold step at ht
  cases e : s.prelude with
  | idle u =>
    rw [e] at ht
    cases ht
    exact absurd (State.prelude_idle e) (by simpa using hr)
  | run u =>
    rw [e] at ht
    have hu : u.resetPending = false := h.prelude_noReset e
    dsimp only at ht
    split at ht
    · cases ht
      exact hu
    · unfold State.runInstruction at ht
      split at ht
      · exact (exec_resetPending ht).trans hu
      · cases ht
    · cases ht
      exact u.irqSequence_resetPending.trans hu
    · cases ht
      exact u.resetSequence_resetPending.trans hu
    · cases ht
      exact u.microCycle_resetPending.trans hu

/-! ### What a load stores -/

/-- The state with one byte of memory loaded. -/
def State.loadByte (s : State) (addr : Word) (b : Byte) : State := { s with mem := s.mem.write addr.toNat b }

theorem State.wf_loadByte (addr : Word) (b : Byte) (h : s.mem.wf = true) : (s.loadByte addr b).mem.wf = true :=
  Memory.wf_write_word _ _ _ h

theorem State.read_loadByte (addr : Word) (b : Byte) (a : Nat) (h : s.mem.wf = true) :
    (s.loadByte addr b).mem.read a = if addr.toNat = a then b else s.mem.read a := Memory.read_write _ _ _ _ h

/-- Memory answers at every address. -/
def State.Answered (s : State) : Prop := ∀ addr : Word, s.regionAt addr ≠ .external

theorem State.Answered.loadByte (h : s.Answered) (addr : Word) (b : Byte) : (s.loadByte addr b).Answered := h

/-- Where memory answers, the first byte of an image is stored at its base, and the rest after it. -/
theorem State.Answered.storeImage_cons (h : s.Answered) (base : Word) (b : Byte) (rest : List Byte) :
    s.storeImage base (b :: rest) = (s.loadByte base b).storeImage (base + 1) rest := by
  rw [State.storeImage]
  split
  · next e => exact absurd e (h base)
  · rfl

/-- Where memory answers, an image load changes nothing but memory. -/
theorem State.Answered.storeImage_frame (h : s.Answered) :
    s.storeImage base bytes = { s with mem := (s.storeImage base bytes).mem } := by
  induction bytes generalizing s base with
  | nil => rfl
  | cons b rest ih =>
    rw [h.storeImage_cons]
    exact ih (h.loadByte base b)

/-- The address of byte `i + 1` of an image is that of byte `i` of the image's rest. -/
theorem imageAddr_succ (base : Word) (i : Nat) : base + BitVec.ofNat 16 (i + 1) = base + 1 + BitVec.ofNat 16 i := by
  rw [Nat.add_comm, BitVec.ofNat_add, BitVec.add_assoc]
  rfl

/-- A byte at an address that no byte of the image has is as before. -/
theorem State.Answered.read_storeImage_of_ne (h : s.Answered) (hwf : s.mem.wf = true) {a : Nat}
    (ha : ∀ i : Nat, i < bytes.length → (base + BitVec.ofNat 16 i).toNat ≠ a) :
    (s.storeImage base bytes).mem.read a = s.mem.read a := by
  induction bytes generalizing s base with
  | nil => rfl
  | cons b rest ih =>
    have hbase : base.toNat ≠ a := by simpa using ha 0 (by simp)
    have hrest (i : Nat) (hi : i < rest.length) : (base + 1 + BitVec.ofNat 16 i).toNat ≠ a :=
      imageAddr_succ base i ▸ ha (i + 1) (by simpa using hi)
    rw [h.storeImage_cons, ih (h.loadByte base b) (s.wf_loadByte base b hwf) hrest, s.read_loadByte _ _ _ hwf, if_neg hbase]

/-- Byte `i` of an image no longer than the address space stands at its address: no later byte wraps round to it. -/
theorem State.Answered.read_storeImage (h : s.Answered) (hwf : s.mem.wf = true) (hlen : bytes.length ≤ 65536) {i : Nat}
    {v : Byte} (hv : bytes[i]? = some v) : (s.storeImage base bytes).mem.read (base + BitVec.ofNat 16 i).toNat = v := by
  induction bytes generalizing s base i with
  | nil => simp at hv
  | cons b rest ih =>
    have hlen : rest.length + 1 ≤ 65536 := hlen
    rw [h.storeImage_cons]
    cases i with
    | zero =>
      obtain rfl : b = v := by simpa using hv
      have hrest (i : Nat) (hi : i < rest.length) :
          (base + 1 + BitVec.ofNat 16 i).toNat ≠ (base + BitVec.ofNat 16 0).toNat := by
        bv_omega
      rw [(h.loadByte base b).read_storeImage_of_ne (s.wf_loadByte base b hwf) hrest, s.read_loadByte _ _ _ hwf]
      simp
    | succ i =>
      rw [imageAddr_succ]
      exact ih (h.loadByte base b) (s.wf_loadByte base b hwf) (by omega) (by simpa using hv)

/-- Settles O57: a step that does not leave the CPU halted leaves no reset pending, so a load after it is refused; and an image
no longer than the address space has an address of its own for each byte. -/
theorem imageLoadStoresItsBytes : Obligations.ImageLoadStoresItsBytes := by
  intro base bytes s
  refine ⟨fun hh hb => ?_, fun h hh => ?_, fun t h ht hh => ?_, fun hb hwf hlen (hmap : s.Answered) => ?_⟩
  · exact run_load_refused hh (by rcases hb with hb | hb <;> simp [State.beforeExecution, hb])
  · exact run_load_refused hh (State.beforeExecution_of_noReset (h.microStep_noReset hh))
  · exact run_load_refused hh (State.beforeExecution_of_noReset (h.step_noReset ht hh))
  · exact ⟨_, run_load (by simpa [State.beforeExecution] using hb), hmap.storeImage_frame, s.storeImage_wf base bytes hwf,
      fun i v hv => hmap.read_storeImage hwf hlen hv, fun a ha => hmap.read_storeImage_of_ne hwf ha⟩

end Sys2Proof.Machine
end

section
/-! PROOFS. The decoder and the encoder are each other's inverse: what the decoder accepts is an opcode map entry with its
operand bytes, and every entry makes instructions that its own opcode encodes (R150, R151, R154). -/

namespace Sys2Proof

/-! ### The instructions of an entry -/

/-- The instruction an entry makes, `lo` and `hi` being the bytes after the opcode; those its format has not are ignored. -/
def Entry.instr : Entry → Byte → Byte → Instr
  | .f1 i, _, _ => i
  | .f2 make, lo, _ => make lo
  | .f3 make, lo, hi => make (hi ++ lo)

/-- The operand bytes of that instruction (R151). -/
def Entry.operands : Entry → Byte → Byte → List Byte
  | .f1 _, _, _ => []
  | .f2 _, lo, _ => [lo]
  | .f3 _, lo, hi => addrBytes (hi ++ lo)

/-- The bytes of an address joined from two bytes are these (R105). -/
@[simp] theorem addrBytes_append (hi lo : Byte) : addrBytes (hi ++ lo) = [lo, hi] :=
  congrArg₂ (fun a b => [a, b]) BitVec.extractLsb'_append_eq_right BitVec.extractLsb'_append_eq_left

/-- Every opcode has an entry, and encodes every instruction that its entry makes: the opcode map, opcode by opcode. -/
theorem entryOf_encode (opcode : Byte) :
    ∃ e, entryOf opcode = some e ∧ ∀ lo hi, encode (e.instr lo hi) = opcode :: e.operands lo hi := by
  obtain ⟨n⟩ := opcode
  fin_cases n
  all_goals exact ⟨_, rfl, fun _ _ => rfl⟩

/-- What the decoder accepts is an opcode, the operand bytes of its entry, and the rest. -/
theorem exists_entry_of_decode {bytes rest : List Byte} {i : Instr} (h : decode bytes = .ok (i, rest)) :
    ∃ opcode e lo hi, entryOf opcode = some e ∧ e.instr lo hi = i ∧ bytes = opcode :: e.operands lo hi ++ rest := by
  cases bytes with
  | nil => cases h
  | cons opcode tail =>
    obtain ⟨e, he, -⟩ := entryOf_encode opcode
    refine ⟨opcode, e, ?_⟩
    cases e with
    | f1 j =>
      obtain ⟨rfl, rfl⟩ : j = i ∧ tail = rest := by simpa [decode, he] using h
      exact ⟨0, 0, he, rfl, rfl⟩
    | f2 make =>
      match tail with
      | [] => simp [decode, he] at h
      | lo :: tail =>
        obtain ⟨rfl, rfl⟩ : make lo = i ∧ tail = rest := by simpa [decode, he] using h
        exact ⟨lo, 0, he, rfl, rfl⟩
    | f3 make =>
      match tail with
      | [] | [_] => simp [decode, he] at h
      | lo :: hi :: tail =>
        obtain ⟨rfl, rfl⟩ : make (hi ++ lo) = i ∧ tail = rest := by simpa [decode, he] using h
        exact ⟨lo, hi, he, rfl, by simp [Entry.operands]⟩

/-- The operand bytes of an entry are the first of the two bytes it is given. -/
theorem Entry.exists_operands_append (e : Entry) (lo hi : Byte) : ∃ rest, e.operands lo hi ++ rest = [lo, hi] := by
  cases e <;> simp [Entry.operands]

/-! ### The obligations -/

/-- Settles O2: the decoder finds the opcode's entry, which makes the instruction from its operand bytes. -/
theorem decodeEncodeIsIdentity : Obligations.DecodeEncodeIsIdentity :=
  fun i rest _ => decode_encode_append i rest

/-- Settles O3: the decoder has read an entry's operand bytes, and the entry's opcode encodes what it makes of them. -/
theorem encodeDecodeIsIdentity : Obligations.EncodeDecodeIsIdentity := by
  intro bytes rest i h
  obtain ⟨opcode, e, lo, hi, he, rfl, rfl⟩ := exists_entry_of_decode h
  obtain ⟨e', he', henc⟩ := entryOf_encode opcode
  cases he.symm.trans he'
  rw [henc]

/-- Settles O4: the opcode's entry makes the instruction, whose bytes are the opcode and the first of the two after it. -/
theorem everyOpcodeDecodes : Obligations.EveryOpcodeDecodes := by
  intro opcode b1 b2
  obtain ⟨e, -, henc⟩ := entryOf_encode opcode
  obtain ⟨rest, hrest⟩ := e.exists_operands_append b1 b2
  have hbytes : encode (e.instr b1 b2) ++ rest = [opcode, b1, b2] := by rw [henc, List.cons_append, hrest]
  have hlen : (encode (e.instr b1 b2)).length + rest.length = 3 := by simpa using congrArg List.length hbytes
  refine ⟨e.instr b1 b2, rest, hbytes ▸ decode_encode_append _ rest, by simp [henc], by simp [henc], by omega, by omega, rfl⟩

/-- Settles O1: each word is the encoding of its instruction. -/
theorem writtenWordsDecode : Obligations.WrittenWordsDecode :=
  ⟨decode_encode_append (.ldaImm 0x42) [], decode_encode_append (.ldaAbx 0x12F0) [], decode_encode_append (.staIzy 0x20) [],
    decode_encode_append .pha [], decode_encode_append (.adcAbs 0x1234) [], decode_encode_append (.rorAbx 0x10FF) [],
    decode_encode_append .nop [], decode_encode_append (.jsrAbs 0x1000) [], decode_encode_append (.bne 0xFB) [],
    decode_encode_append (.brk 0xEA) [], decode_encode_append (.dcpIzy 0x20) [], decode_encode_append (.shxAby 0x12F0) [],
    decode_encode_append .jam02 []⟩

end Sys2Proof
end

section
/-! PROOFS. Every instruction but JAM ends its sequence at a boundary and adds no fault (R156, R703). -/

namespace Sys2Proof.Machine

variable {s : State}

/-- What a JAM changes of a state (R313): whether the CPU is jammed, and the fault log. -/
def State.jamView (s : State) : Bool × List FaultRec := (s.jammed, s.faultLog)

/-- Transactions neither jam the CPU nor record a fault. -/
theorem After.jamView {t : State} {bus : List Bus} (h : After s t bus) : t.jamView = s.jamView := by
  simp [State.jamView, h.jammed, h.faultLog]

theorem State.Heads.jamView {u : State} (h : s.Heads u) : u.jamView = s.jamView := by
  obtain ⟨bus, hu, -⟩ := h.exists_after
  exact hu.jamView

/-- `t` is at a boundary, as jammed as `s` and with the same faults. -/
structure State.ReturnsTo (s t : State) : Prop where
  jamView : t.jamView = s.jamView
  stage : t.micro.stage = .opcode

theorem State.ReturnsTo.endInstr {u : State} (h : u.jamView = s.jamView) : s.ReturnsTo u.endInstr :=
  ⟨(After.endInstr u).jamView.trans h, u.endInstr_stage⟩

theorem State.ReturnsTo.endTrap {u : State} (h : u.jamView = s.jamView) : s.ReturnsTo u.endTrap :=
  ⟨(After.endTrap u).jamView.trans h, u.endTrap_stage⟩

/-- The kind of the JAM opcodes. -/
def Kind.isJam : Kind → Bool
  | .jam => true
  | _ => false

/-- Only the JAM opcodes have the kind of a JAM. -/
theorem kindOf_isJam_of_mnemonic_ne (i : Instr) {op : Byte} (h : (encode i).head? = some op) (hn : i.mnemonic ≠ "JAM") :
    (kindOf op).isJam = false := by
  cases i with
  | jam02 | jam12 | jam22 | jam32 | jam42 | jam52 | jam62 | jam72 | jam92 | jamB2 | jamD2 | jamF2 => exact absurd rfl hn
  | _ => cases h; rfl

/-- A branch ends after its second, third or fourth cycle (R362). -/
theorem branch_returns (s : State) (op offset : Byte) (cond : Flags → Bool) : s.ReturnsTo (branch op offset cond s) := by
  unfold branch
  dsimp only
  split
  · split <;> exact .endInstr (by simp [State.jamView])
  · exact .endInstr (by simp [State.jamView])

/-- An instruction of any other kind ends its sequence, and the operations before the end neither jam nor record. -/
theorem Performs.returns {k : Kind} {t : State} (ht : Performs s k t) (hk : k.OnRegs) (hj : k.isJam = false) :
    s.ReturnsTo t := by
  have he (v : Byte) (u : State) : (k.effect v u).jamView = u.jamView := (hk.after v u).jamView
  cases ht with
  | implied | acc => exact .endInstr ((he 0 _).trans (by simp [State.jamView]))
  | imm => exact .endInstr ((he _ _).trans (by simp [State.jamView]))
  | read hu => exact .endInstr ((he _ _).trans (.trans (by simp [State.jamView]) hu.jamView))
  | write hu => exact .endInstr (.trans (by simp [State.jamView]) hu.jamView)
  | rmw hu => exact .endInstr ((he _ _).trans (.trans (by simp [State.jamView]) hu.jamView))
  | high hu => exact .endInstr ((he 0 _).trans (.trans (by simp [State.jamView]) hu.jamView))
  | branch => exact branch_returns s _ _ _
  | pull => exact .endInstr ((he _ _).trans (by simp [State.jamView]))
  | jsr => exact .endInstr (by simp [State.jamView, State.headJsr])
  | push | jmpAbs | jmpInd | rts | rti => exact .endInstr (by simp [State.jamView])
  | brk => exact .endTrap (by simp [State.jamView, State.pushPcAndStatus])
  | jam => cases hj

/-- Settles O44: only the kind of the JAM opcodes locks the CPU up; the others end their sequence. -/
theorem onlyJamJams : Obligations.OnlyJamJams := by
  intro i s t h hn
  obtain ⟨op, u, hop, hu, hp⟩ := exec_performs i s
  cases hu.symm.trans h
  have hr := hp.returns (kindOf_onRegs op) (kindOf_isJam_of_mnemonic_ne i hop hn)
  exact ⟨congrArg Prod.fst hr.jamView, congrArg Prod.snd hr.jamView, hr.stage⟩

end Sys2Proof.Machine
end

section
/-! PROOFS. The wiring of a network, which propagation leaves: every sink, owner, bus and link. Two networks of one wiring are
equal if their pins have the same levels and directions, and they the same notes and choices. Then the nets of pins (R215). -/

namespace Sys2Proof.Machine

variable {n m : Net}

/-- What no propagation changes: the network with every pin LOW and HI_Z, and no note and no choice yet. -/
def Net.wires (n : Net) : Net :=
  { n with
    cpu := CpuPins.powerOn
    pins := n.pins.map (fun q => { q with level := .low, direction := .hiZ })
    notes := []
    choices := 0 }

theorem Net.wires_pins_getElem? (n : Net) (k : Nat) :
    n.wires.pins[k]? = (n.pins[k]?).map (fun q => { q with level := .low, direction := .hiZ }) := by
  simp [Net.wires]

/-- A change of one pin that leaves all but its level and direction. -/
theorem Net.wires_modifyPin (n : Net) (k : Nat) {f : Pin → Pin}
    (h : ∀ q : Pin, { f q with level := .low, direction := .hiZ } = { q with level := .low, direction := .hiZ }) :
    (n.modifyPin k f).wires = n.wires := by
  simp only [Net.wires, Net.modifyPin, Net.mk.injEq, true_and, and_true]
  refine List.ext_getElem? fun j => ?_
  simp only [List.getElem?_map, List.getElem?_modify, Option.map_map, Option.map_eq_map]
  congr 1
  funext q
  dsimp only [Function.comp]
  split
  · exact h q
  · rfl

@[simp] theorem Net.wires_putLevel (n : Net) (p : PinId) (v : Level) : (n.putLevel p v).wires = n.wires := by
  cases p with
  | ext k => exact n.wires_modifyPin k fun _ => rfl
  | _ => rfl

@[simp] theorem Net.wires_putDirection (n : Net) (p : PinId) (d : Direction) : (n.putDirection p d).wires = n.wires := by
  cases p with
  | ext k => exact n.wires_modifyPin k fun _ => rfl
  | _ => rfl

@[simp] theorem Net.sinkOf_wires (n : Net) (p : PinId) : n.wires.sinkOf p = n.sinkOf p := by
  cases p with
  | ext k => simp only [Net.sinkOf, n.wires_pins_getElem? k]; cases n.pins[k]? <;> rfl
  | _ => rfl

@[simp] theorem Net.ownerOf_wires (n : Net) (p : PinId) : n.wires.ownerOf p = n.ownerOf p := by
  cases p with
  | ext k => simp only [Net.ownerOf, n.wires_pins_getElem? k]; cases n.pins[k]? <;> rfl
  | _ => rfl

@[simp] theorem Net.busPins_wires (n : Net) (b : BusId) : n.wires.busPins b = n.busPins b := by cases b <;> rfl

@[simp] theorem Net.busSink_wires (n : Net) (b : BusId) : n.wires.busSink b = n.busSink b := by cases b <;> rfl

theorem Net.sinkOf_of_wires (h : m.wires = n.wires) (p : PinId) : m.sinkOf p = n.sinkOf p := by
  simpa using congrArg (Net.sinkOf · p) h

theorem Net.ownerOf_of_wires (h : m.wires = n.wires) (p : PinId) : m.ownerOf p = n.ownerOf p := by
  simpa using congrArg (Net.ownerOf · p) h

theorem Net.busPins_of_wires (h : m.wires = n.wires) (b : BusId) : m.busPins b = n.busPins b := by
  simpa using congrArg (Net.busPins · b) h

theorem Net.busSink_of_wires (h : m.wires = n.wires) (b : BusId) : m.busSink b = n.busSink b := by
  simpa using congrArg (Net.busSink · b) h

theorem Net.links_of_wires (h : m.wires = n.wires) : m.links = n.links := by
  simpa [Net.wires] using congrArg (fun k : Net => k.links) h

theorem Net.memoryPins_of_wires (h : m.wires = n.wires) : m.memoryPins = n.memoryPins := by
  simpa [Net.wires] using congrArg (fun k : Net => k.memoryPins) h

theorem Net.unsettled_of_wires (h : m.wires = n.wires) : m.unsettled = n.unsettled := by
  simpa [Net.wires] using congrArg (fun k : Net => k.unsettled) h

theorem Net.length_pins_of_wires (h : m.wires = n.wires) : m.pins.length = n.pins.length := by
  simpa [Net.wires] using congrArg (fun k : Net => k.pins.length) h

/-- The fields of the CPU's pins determine them. -/
theorem CpuPins.eq_of_fields : ∀ {a b : CpuPins}, a.addr = b.addr → a.addrDir = b.addrDir → a.data = b.data →
    a.dataDir = b.dataDir → a.rw = b.rw → a.rwDir = b.rwDir → a.reset = b.reset → a.irq = b.irq → a.phi0 = b.phi0 →
    a.aec = b.aec → a.rdy = b.rdy → a = b := by
  rintro ⟨⟩ ⟨⟩ rfl rfl rfl rfl rfl rfl rfl rfl rfl rfl rfl
  rfl

/-- The CPU's pins are their levels and directions. -/
theorem Net.cpu_ext (hl : ∀ p, (∀ k, p ≠ .ext k) → m.levelOf p = n.levelOf p)
    (hd : ∀ p, (∀ k, p ≠ .ext k) → m.directionOf p = n.directionOf p) : m.cpu = n.cpu := by
  have hbit {a b : Bool} (h : Level.ofBool a = Level.ofBool b) : a = b := by
    simpa using congrArg Level.toBool h
  have haddr : m.cpu.addr = n.cpu.addr :=
    BitVec.eq_of_getLsbD_eq fun i hi => hbit (hl (.addr ⟨i, hi⟩) nofun)
  have hdata : m.cpu.data = n.cpu.data :=
    BitVec.eq_of_getLsbD_eq fun i hi => hbit (hl (.data ⟨i, hi⟩) nofun)
  have haddrDir : m.cpu.addrDir = n.cpu.addrDir :=
    Vector.ext fun i hi => Option.some.inj (hd (.addr ⟨i, hi⟩) nofun)
  have hdataDir : m.cpu.dataDir = n.cpu.dataDir :=
    Vector.ext fun i hi => Option.some.inj (hd (.data ⟨i, hi⟩) nofun)
  exact CpuPins.eq_of_fields haddr haddrDir hdata hdataDir (hl .rw nofun) (Option.some.inj (hd .rw nofun))
    (hl .reset nofun) (hl .irq nofun) (hl .phi0 nofun) (hl .aec nofun) (hl .rdy nofun)

/-- Of two networks of one wiring, a created pin is the same in both if its level and direction are. -/
theorem Net.pin_eq_of_wires (h : m.wires = n.wires) {k : Nat} (hl : m.levelOf (.ext k) = n.levelOf (.ext k))
    (hd : m.directionOf (.ext k) = n.directionOf (.ext k)) : m.pins[k]? = n.pins[k]? := by
  have hw := congrArg (fun j : Net => j.pins[k]?) h
  simp only [Net.wires_pins_getElem?] at hw
  simp only [Net.levelOf, Net.directionOf] at hl hd
  cases hm : m.pins[k]? with
  | none =>
    cases hn : n.pins[k]? with
    | none => rfl
    | some b => simp [hm, hn] at hw
  | some a =>
    cases hn : n.pins[k]? with
    | none => simp [hm, hn] at hw
    | some b =>
      obtain ⟨⟩ := a
      obtain ⟨⟩ := b
      simp_all

/-- Two networks of one wiring, with the same notes and choices, are equal if their pins have the same levels and
directions. -/
theorem Net.eq_of_wires (h : m.wires = n.wires) (hn : m.notes = n.notes) (hk : m.choices = n.choices)
    (hl : ∀ p, m.levelOf p = n.levelOf p) (hd : ∀ p, m.directionOf p = n.directionOf p) : m = n := by
  have hc : m.cpu = n.cpu := Net.cpu_ext (fun p _ => hl p) fun p _ => hd p
  have hp : m.pins = n.pins := List.ext_getElem? fun k => Net.pin_eq_of_wires h (hl _) (hd _)
  obtain ⟨⟩ := m
  obtain ⟨⟩ := n
  simp_all [Net.wires]

/-- Levels are those of the pins, whatever else the network has. -/
theorem Net.levelOf_congr (hc : m.cpu = n.cpu) (hp : m.pins = n.pins) (p : PinId) : m.levelOf p = n.levelOf p := by
  cases p <;> simp [Net.levelOf, hc, hp]

/-- So are directions. -/
theorem Net.directionOf_congr (hc : m.cpu = n.cpu) (hp : m.pins = n.pins) (p : PinId) :
    m.directionOf p = n.directionOf p := by
  cases p <;> simp [Net.directionOf, hc, hp]

/-! ### The network as the part of the state that calls change -/

/-- The state with another network. -/
def State.withNet (s : State) (m : Net) : State := { s with net := m }

@[simp] theorem State.withNet_net (s : State) (m : Net) : (s.withNet m).net = m := rfl

@[simp] theorem State.withNet_self (s : State) : s.withNet s.net = s := rfl

@[simp] theorem State.withNet_withNet (s : State) (m k : Net) : (s.withNet m).withNet k = s.withNet k := rfl

theorem State.mapNet_eq (s : State) (f : Net → Net) : s.mapNet f = s.withNet (f s.net) := rfl

/-- A call followed by another goes on where the first ends. -/
theorem run_bind_ok {α β : Type} {call : NetM α} {next : α → NetM β} {s t : State} {a : α} (h : call.run s = .ok a t) :
    (call >>= next).run s = (next a).run t := by
  rw [EStateM.run_bind, h]

/-- A call that stops is followed by none. -/
theorem run_bind_error {α β : Type} {call : NetM α} {next : α → NetM β} {s t : State} {e : Stop}
    (h : call.run s = .error e t) : (call >>= next).run s = .error e t := by
  rw [EStateM.run_bind, h]

/-! ### Nets (R215) -/

/-- No pass of links that all have both ends among the pins found, or neither, finds another. -/
theorem growNet_eq_self {links : List Link} {seen : List PinId} (h : ∀ l ∈ links, l.p ∈ seen ↔ l.q ∈ seen) :
    growNet links seen = seen := by
  induction links with
  | nil => rfl
  | cons l rest ih =>
    have hl := h l List.mem_cons_self
    have hrest := ih fun k hk => h k (List.mem_cons_of_mem _ hk)
    unfold growNet
    by_cases hp : l.p ∈ seen <;> simp [hp, ← hl, hrest]

theorem growNetTimes_eq_self {links : List Link} {seen : List PinId} (h : ∀ l ∈ links, l.p ∈ seen ↔ l.q ∈ seen)
    (k : Nat) : growNetTimes links k seen = seen := by
  induction k with
  | zero => rfl
  | succ k ih => rw [growNetTimes, growNet_eq_self h, ih]

/-- A pin whose links join it to no other pin is alone on its net. -/
theorem netOf_eq_self {links : List Link} {p : PinId} (h : ∀ l ∈ links, l.p = p ↔ l.q = p) : netOf links p = [p] :=
  growNetTimes_eq_self (by simpa using h) _

/-- A pass over a link finds its other end. -/
theorem mem_growNet_of_joins {links : List Link} {seen : List PinId} {p q : PinId} {l : Link} (hl : l ∈ links)
    (hj : l.joins p q = true) (hp : p ∈ seen) : q ∈ growNet links seen := by
  have hj : l.p = p ∧ l.q = q ∨ l.p = q ∧ l.q = p := by simpa [Link.joins] using hj
  induction links generalizing seen with
  | nil => cases hl
  | cons k rest ih =>
    unfold growNet
    rcases List.mem_cons.mp hl with rfl | hl
    · by_cases hq : q ∈ seen
      · repeat' split
        all_goals exact mem_growNet _ _ _ (by simp [hq])
      · rcases hj with ⟨rfl, rfl⟩ | ⟨rfl, rfl⟩ <;> simp [hp, hq, mem_growNet]
    · repeat' split
      all_goals exact ih hl (by simp [hp])

/-- Where there is a link, at least one pass is made. -/
theorem exists_netOf_eq {links : List Link} {l : Link} (hl : l ∈ links) (p : PinId) :
    ∃ k, netOf links p = growNetTimes links k (growNet links [p]) := by
  have := List.length_pos_of_mem hl
  exact ⟨links.length - 1, by rw [netOf, ← growNetTimes]; congr 1; omega⟩

/-- Linked pins are on one net. -/
theorem mem_netOf_of_joins {links : List Link} {p q : PinId} {l : Link} (hl : l ∈ links) (hj : l.joins p q = true) :
    q ∈ netOf links p := by
  obtain ⟨k, hk⟩ := exists_netOf_eq hl p
  rw [hk]
  exact mem_growNetTimes _ _ _ _ (mem_growNet_of_joins hl hj (by simp))

/-- A pass lists no pin twice. -/
theorem nodup_growNet (links : List Link) {seen : List PinId} (h : seen.Nodup) : (growNet links seen).Nodup := by
  induction links generalizing seen with
  | nil => exact h
  | cons l rest ih =>
    unfold growNet
    repeat' split
    · exact ih (by simp_all [List.nodup_append]; rintro _ ha rfl; simp_all)
    · exact ih (by simp_all [List.nodup_append]; rintro _ ha rfl; simp_all)
    · exact ih h

theorem nodup_growNetTimes (links : List Link) (k : Nat) {seen : List PinId} (h : seen.Nodup) :
    (growNetTimes links k seen).Nodup := by
  induction k generalizing seen with
  | zero => exact h
  | succ k ih => exact ih (nodup_growNet links h)

/-- A net has each of its pins once. -/
theorem nodup_netOf (links : List Link) (p : PinId) : (netOf links p).Nodup := nodup_growNetTimes _ _ (by simp)

theorem Link.joins_iff {l : Link} {p q : PinId} : l.joins p q = true ↔ l.p = p ∧ l.q = q ∨ l.p = q ∧ l.q = p := by
  simp [Link.joins]

/-- A link that joins two pins or touches neither has both its ends among them, or neither. -/
theorem Link.mem_pair_iff {l : Link} {p q : PinId} (h : l.joins p q = true ∨ l.p ∉ [p, q] ∧ l.q ∉ [p, q]) :
    l.p ∈ [p, q] ↔ l.q ∈ [p, q] := by
  rcases h with h | ⟨h1, h2⟩
  · rcases Link.joins_iff.mp h with ⟨h1, h2⟩ | ⟨h1, h2⟩ <;> simp [h1, h2]
  · exact iff_of_false h1 h2

/-- A pass of the links from a pin linked to one other pin, which has no further link, finds that pin. -/
theorem growNet_eq_pair {links : List Link} {p q : PinId} (hpq : p ≠ q)
    (h : ∀ l ∈ links, l.joins p q = true ∨ l.p ∉ [p, q] ∧ l.q ∉ [p, q]) (hex : ∃ l ∈ links, l.joins p q = true) :
    growNet links [p] = [p, q] := by
  induction links with
  | nil => simp at hex
  | cons l rest ih =>
    have hrest := fun k hk => h k (List.mem_cons_of_mem l hk)
    rcases h l List.mem_cons_self with hj | ⟨h1, h2⟩
    · have hstep : growNet (l :: rest) [p] = growNet rest [p, q] := by
        rcases Link.joins_iff.mp hj with ⟨rfl, rfl⟩ | ⟨rfl, rfl⟩ <;> simp [growNet, Ne.symm hpq]
      rw [hstep, growNet_eq_self fun k hk => Link.mem_pair_iff (hrest k hk)]
    · have hnot : l.joins p q ≠ true := fun hj => by
        rcases Link.joins_iff.mp hj with ⟨rfl, -⟩ | ⟨rfl, -⟩ <;> simp at h1
      obtain ⟨k, hk, hkj⟩ := hex
      have hk' : k ∈ rest := (List.mem_cons.mp hk).resolve_left fun e => hnot (e ▸ hkj)
      simp only [List.mem_cons, not_or] at h1 h2
      have hstep : growNet (l :: rest) [p] = growNet rest [p] := by simp [growNet, h1.1, h2.1]
      rw [hstep, ih hrest ⟨k, hk', hkj⟩]

/-- Such a pin is on a net with that pin alone. -/
theorem netOf_eq_pair {links : List Link} {p q : PinId} (hpq : p ≠ q)
    (h : ∀ l ∈ links, l.joins p q = true ∨ l.p ∉ [p, q] ∧ l.q ∉ [p, q]) (hex : ∃ l ∈ links, l.joins p q = true) :
    netOf links p = [p, q] := by
  obtain ⟨l, hl, -⟩ := id hex
  obtain ⟨k, hk⟩ := exists_netOf_eq hl p
  rw [hk, growNet_eq_pair hpq h hex, growNetTimes_eq_self fun l hl => Link.mem_pair_iff (h l hl)]

end Sys2Proof.Machine
end

section
/-! PROOFS. Propagation on a net whose sinks do nothing (R210): whatever the order of the visits (R213), each INPUT pin takes the
level, and the sinks of those that change are called once each. -/

namespace Sys2Proof.Machine

variable {n m : Net} {s : State} {p q : PinId} {v : Level} {order : Nat → Nat}

/-! ### The choice of the pin visited next -/

theorem exists_takeAt {α : Type} {k : Nat} {left : List α} (h : k < left.length) :
    ∃ x rest, takeAt k left = some (x, rest) ∧ left.Perm (x :: rest) := by
  induction left generalizing k with
  | nil => simp at h
  | cons a as ih =>
    cases k with
    | zero => exact ⟨a, as, rfl, .refl _⟩
    | succ k =>
      obtain ⟨x, rest, hx, hperm⟩ := ih (Nat.lt_of_succ_lt_succ h)
      exact ⟨x, a :: rest, by simp [takeAt, hx], (hperm.cons a).trans (.swap x a rest)⟩

/-- A choice takes one of the pins left. -/
theorem Net.exists_choose (n : Net) (order : Nat → Nat) {left : List PinId} (h : left ≠ []) :
    ∃ q rest, takeAt (n.choose order left).1 left = some (q, rest) ∧ left.Perm (q :: rest) := by
  refine exists_takeAt ?_
  have hpos := List.length_pos_iff.mpr h
  unfold Net.choose
  split
  · exact hpos
  · exact Nat.mod_lt _ hpos

/-- A choice changes only the count of choices. -/
theorem Net.choose_snd (n : Net) (order : Nat → Nat) (left : List PinId) :
    (n.choose order left).2 = { n with choices := (n.choose order left).2.choices } := by
  unfold Net.choose
  split <;> rfl

/-- Where one pin is left there is no choice. -/
theorem Net.choose_of_le_one (n : Net) (order : Nat → Nat) {left : List PinId} (h : left.length ≤ 1) :
    (n.choose order left).2 = n := by
  simp [Net.choose, h]

/-! ### One visit -/

/-- A pin with a sink has an owner. -/
theorem Net.exists_ownerOf {k : Sink} (h : n.sinkOf p = some k) : ∃ who, n.ownerOf p = some who := by
  cases p with
  | ext j =>
    simp only [Net.sinkOf, Option.bind_eq_some_iff] at h
    obtain ⟨a, ha, -⟩ := h
    exact ⟨a.owner, by simp [Net.ownerOf, ha]⟩
  | _ => exact ⟨.cpu, rfl⟩

/-- A pin with no sink is not notified (R206). -/
theorem run_callSink_none {tick : Wiring → NetM Unit} {w : Wiring} (h : s.net.sinkOf q = none) :
    (callSink tick w q v).run s = .ok () s := by
  simp [callSink, h]

/-- A sink that does nothing is called all the same. -/
theorem run_callSink_done {tick : Wiring → NetM Unit} {w : Wiring} (h : s.net.sinkOf q = some .done) :
    (callSink tick w q v).run s = .ok () (s.mapNet (fun n => { n with notes := .pin q v :: n.notes })) := by
  obtain ⟨who, hw⟩ := Net.exists_ownerOf h
  simp [callSink, h, hw, runSink]

/-- Whether a pin takes the level `v` when it is visited. -/
def Net.takes (n : Net) (v : Level) (q : PinId) : Bool := decide (n.directionOf q = some .input ∧ n.levelOf q ≠ v)

/-- The calls of sinks that follow when the pins of a list take a level. -/
def Net.calls (n : Net) (v : Level) (left : List PinId) : List Note :=
  (left.filter (fun q => n.takes v q && decide (n.sinkOf q = some .done))).map (Note.pin · v)

/-- What visiting the pins `left` with level `v` does to a network. -/
structure Net.Spread (v : Level) (left : List PinId) (n m : Net) : Prop where
  wires : m.wires = n.wires
  direction : ∀ x, m.directionOf x = n.directionOf x
  level : ∀ x, m.levelOf x = if x ∈ left ∧ n.directionOf x = some .input then v else n.levelOf x
  notes : ∃ calls, m.notes = calls ++ n.notes ∧ calls.Perm (n.calls v left)
  choices : left.length ≤ 1 → m.choices = n.choices

/-- No sink of the pins does anything. -/
def Net.Quiet (n : Net) (left : List PinId) : Prop := ∀ q ∈ left, ∀ k, n.sinkOf q = some k → k = .done

theorem run_visitPin_of_takes {source : State → Level} {notify : PinId → Level → NetM Unit} (hv : source s = v)
    (h : s.net.takes v q = true) :
    (visitPin source notify q).run s = (notify q v).run (s.mapNet (fun n => n.putLevel q v)) := by
  simp_all [visitPin, Net.takes]

theorem run_visitPin_of_not_takes {source : State → Level} {notify : PinId → Level → NetM Unit} (hv : source s = v)
    (h : s.net.takes v q = false) : (visitPin source notify q).run s = .ok () s := by
  have h : ¬(s.net.directionOf q = some .input ∧ s.net.levelOf q ≠ v) := by simpa [Net.takes] using h
  simp [visitPin, hv, h]

/-- A visit to a pin that does not take the level changes nothing. -/
theorem Net.Spread.of_not_takes (h : n.takes v q = false) : n.Spread v [q] n where
  wires := rfl
  direction _ := rfl
  level x := by
    have h : n.directionOf q = some .input → n.levelOf q = v := by simpa [Net.takes] using h
    split
    next hx =>
      obtain ⟨hx, hd⟩ := hx
      cases List.mem_singleton.mp hx
      exact h hd
    next => rfl
  notes := ⟨[], rfl, by simp [Net.calls, h]⟩
  choices _ := rfl

/-- A visit to a pin that takes the level sets it, and notes the call of its sink if it has one. -/
theorem Net.Spread.of_takes (h : n.takes v q = true) {calls : List Note} (hc : calls = n.calls v [q]) :
    n.Spread v [q] { n.putLevel q v with notes := calls ++ n.notes } where
  wires := n.wires_putLevel q v
  direction x := (Net.directionOf_congr rfl rfl x).trans (n.directionOf_putLevel q x v)
  level x := by
    obtain ⟨hd, -⟩ : n.directionOf q = some .input ∧ n.levelOf q ≠ v := by simpa [Net.takes] using h
    refine (Net.levelOf_congr rfl rfl x).trans ((n.levelOf_putLevel q x v (by simp [hd])).trans ?_)
    by_cases hx : x = q <;> simp [hx, hd]
  notes := ⟨calls, rfl, hc ▸ .refl _⟩
  choices _ := n.choices_putLevel q v

/-- One visit, whether the pin takes the level or not. -/
theorem run_visitPin_quiet {source : State → Level} {tick : Wiring → NetM Unit} {w : Wiring} (hv : source s = v)
    (hq : s.net.Quiet [q]) :
    ∃ m, (visitPin source (callSink tick w) q).run s = .ok () (s.withNet m) ∧ s.net.Spread v [q] m := by
  cases ht : s.net.takes v q with
  | false => exact ⟨s.net, run_visitPin_of_not_takes hv ht, .of_not_takes ht⟩
  | true =>
    refine ⟨_, ?_, .of_takes ht rfl⟩
    rw [run_visitPin_of_takes hv ht]
    cases hs : s.net.sinkOf q with
    | none =>
      rw [run_callSink_none (by simp [State.mapNet, hs])]
      have hc : s.net.calls v [q] = [] := by simp [Net.calls, hs]
      rw [hc, List.nil_append, ← s.net.notes_putLevel q v]
      rfl
    | some k =>
      obtain rfl := hq q (by simp) k hs
      rw [run_callSink_done (by simp [State.mapNet, hs])]
      simp [State.mapNet, State.withNet, Net.calls, ht, hs]

/-! ### All visits -/

/-- No visit changes nothing. -/
theorem Net.Spread.eq_of_nil (h : n.Spread v [] m) : m = n := by
  obtain ⟨calls, hn, hc⟩ := h.notes
  obtain rfl : calls = [] := hc.eq_nil
  exact Net.eq_of_wires h.wires hn (h.choices (by simp)) (fun x => by simp [h.level]) h.direction

/-- The calls depend on the wiring and on the levels and directions of the pins visited. -/
theorem Net.calls_congr {left : List PinId} (h : m.wires = n.wires) (hl : ∀ x ∈ left, m.levelOf x = n.levelOf x)
    (hd : ∀ x ∈ left, m.directionOf x = n.directionOf x) : m.calls v left = n.calls v left := by
  unfold Net.calls
  congr 1
  refine List.filter_congr fun x hx => ?_
  simp only [Net.takes, hl x hx, hd x hx, Net.sinkOf_of_wires h]

theorem Net.Spread.trans {rest : List PinId} {r : Net} (h : n.Spread v [q] m) (k : m.Spread v rest r) (hq : q ∉ rest) :
    n.Spread v (q :: rest) r where
  wires := k.wires.trans h.wires
  direction x := (k.direction x).trans (h.direction x)
  level x := by
    rw [k.level, h.level, h.direction]
    by_cases hx : x = q <;> simp [hx, hq]
  notes := by
    obtain ⟨c, hc, hcp⟩ := h.notes
    obtain ⟨d, hd, hdp⟩ := k.notes
    refine ⟨d ++ c, by rw [hd, hc, List.append_assoc], ?_⟩
    have hm : m.calls v rest = n.calls v rest := Net.calls_congr h.wires
      (fun x hx => by rw [h.level]; simp [ne_of_mem_of_not_mem hx hq]) fun x _ => h.direction x
    have hcons : n.calls v (q :: rest) = n.calls v [q] ++ n.calls v rest := by
      simp only [Net.calls, ← List.map_append, ← List.filter_append, List.singleton_append]
    rw [hcons, ← hm]
    exact (hdp.append hcp).trans List.perm_append_comm
  choices hl := by
    have : rest = [] := by simpa using hl
    rw [k.choices (by simp [this]), h.choices (by simp)]

theorem Net.Spread.of_perm {left left' : List PinId} (h : n.Spread v left m) (hp : left'.Perm left) :
    n.Spread v left' m where
  wires := h.wires
  direction := h.direction
  level x := by rw [h.level]; simp [hp.mem_iff]
  notes := by
    obtain ⟨calls, hn, hc⟩ := h.notes
    exact ⟨calls, hn, hc.trans ((hp.filter _).map _).symm⟩
  choices hl := h.choices (hp.length_eq ▸ hl)

/-- The count of choices does not matter to a visit. -/
theorem Net.Spread.of_choices {left : List PinId} {n' : Net} (h : n'.Spread v left m) {j : Nat}
    (hn : n' = { n with choices := j }) (hj : left.length ≤ 1 → j = n.choices) : n.Spread v left m := by
  subst hn
  have hl (x : PinId) : { n with choices := j }.levelOf x = n.levelOf x := Net.levelOf_congr rfl rfl x
  have hd (x : PinId) : { n with choices := j }.directionOf x = n.directionOf x := Net.directionOf_congr rfl rfl x
  refine ⟨h.wires, fun x => (h.direction x).trans (hd x), fun x => (h.level x).trans ?_, ?_,
    fun hle => (h.choices hle).trans (hj hle)⟩
  · rw [hl, hd]
  · obtain ⟨calls, hn, hc⟩ := h.notes
    exact ⟨calls, hn, (Net.calls_congr (n := n) rfl (fun x _ => hl x) fun x _ => hd x) ▸ hc⟩

theorem Net.Quiet.of_wires {left : List PinId} (hn : n.Quiet left) (h : m.wires = n.wires) : m.Quiet left :=
  fun q hq k hk => hn q hq k (by rwa [Net.sinkOf_of_wires h] at hk)

/-- The next of several visits is to the pin chosen. -/
theorem run_visitAll_succ {visit : PinId → NetM Unit} {left rest : List PinId} {k : Nat}
    (h : takeAt (s.net.choose order left).1 left = some (q, rest)) :
    (visitAll order visit (k + 1) left).run s =
      (visit q >>= fun _ => visitAll order visit k rest).run (s.withNet (s.net.choose order left).2) := by
  simp only [visitAll, EStateM.run_bind, EStateM.run_get, h, EStateM.run_set]
  rfl

/-- Whatever the order, the visits spread the level of the source. -/
theorem run_visitAll_quiet {tick : Wiring → NetM Unit} {w : Wiring} {left : List PinId} (hv : s.net.levelOf p = v)
    (hp : p ∉ left) (hnd : left.Nodup) (hq : s.net.Quiet left) :
    ∃ m, (visitAll order (visitPin (fun s => s.net.levelOf p) (callSink tick w)) left.length left).run s =
      .ok () (s.withNet m) ∧ s.net.Spread v left m := by
  induction hl : left.length generalizing left s with
  | zero =>
    obtain rfl := List.length_eq_zero_iff.mp hl
    exact ⟨s.net, rfl, rfl, fun _ => rfl, fun x => by simp, ⟨[], rfl, .refl _⟩, fun _ => rfl⟩
  | succ k ih =>
    obtain ⟨q, rest, htake, hperm⟩ := s.net.exists_choose order (left := left) (by rintro rfl; simp at hl)
    obtain ⟨hqr, hrest⟩ : q ∉ rest ∧ rest.Nodup := List.nodup_cons.mp (hperm.nodup_iff.mp hnd)
    obtain ⟨hpq, hpr⟩ : p ≠ q ∧ p ∉ rest := by simpa using mt hperm.mem_iff.mpr hp
    have hqq : s.net.Quiet (q :: rest) := fun x hx => hq x (hperm.mem_iff.mpr hx)
    let s1 := s.withNet (s.net.choose order left).2
    have hs1 : s1.net = { s.net with choices := (s.net.choose order left).2.choices } := Net.choose_snd _ _ _
    have hv1 : s1.net.levelOf p = v := by rw [hs1]; exact (Net.levelOf_congr rfl rfl p).trans hv
    have hw1 : s1.net.wires = s.net.wires := by rw [hs1]; rfl
    obtain ⟨m1, hrun1, h1⟩ := run_visitPin_quiet (q := q) (tick := tick) (w := w) (source := fun s => s.net.levelOf p) hv1
      (Net.Quiet.of_wires (fun x hx => hqq x (by simpa using .inl (List.mem_singleton.mp hx))) hw1)
    obtain ⟨m2, hrun2, h2⟩ := ih (s := s1.withNet m1) (left := rest)
      (by rw [State.withNet_net, h1.level]; simpa [hpq] using hv1) hpr hrest
      (Net.Quiet.of_wires (fun x hx => hqq x (by simp [hx])) (h1.wires.trans hw1))
      (by simpa [hl] using hperm.length_eq.symm)
    refine ⟨m2, ?_, ((h1.trans h2 hqr).of_perm hperm).of_choices hs1 fun hle => by rw [Net.choose_of_le_one _ _ hle]⟩
    rw [run_visitAll_succ htake, run_bind_ok hrun1]
    exact hrun2

/-! ### The level setter (R202) -/

variable {tick : Wiring → NetM Unit} {bound fuel : Nat} {who : Owner} {w : Wiring}

/-- The pins of a net but the one that changes. -/
def Net.followers (n : Net) (p : PinId) : List PinId := (netOf n.links p).filter (fun q => decide (q ≠ p))

theorem Net.mem_followers : q ∈ n.followers p ↔ q ∈ netOf n.links p ∧ q ≠ p := by simp [Net.followers]

/-- At every depth the setter has the checks of R202; only the update differs. -/
theorem exists_setLevel_eq (fuel : Nat) (p : PinId) (v : Level) :
    ∃ update, (wiring tick order bound fuel).setLevel p v = changeLevel p v update := by
  cases fuel <;> exact ⟨_, rfl⟩

/-- The setters at a depth from which a change may still propagate. -/
def Wiring.Live (w : Wiring) : Prop := ∃ tick order bound fuel, 1 ≤ fuel ∧ w = wiring tick order bound fuel

theorem wiring_live (hb : 1 ≤ fuel) : (wiring tick order bound fuel).Live := ⟨_, _, _, _, hb, rfl⟩

/-- The level a pin holds may be set again (R207). -/
theorem Wiring.Live.run_setLevel_same (hw : w.Live) (hd : s.net.directionOf p = some .output) (hv : s.net.levelOf p = v) :
    (w.setLevel p v).run s = .ok false s := by
  obtain ⟨tick, order, bound, fuel, -, rfl⟩ := hw
  obtain ⟨update, h⟩ := exists_setLevel_eq (tick := tick) (order := order) (bound := bound) fuel p v
  rw [h, run_changeLevel_same hd hv]

/-- An update with quiet sinks. -/
theorem run_updateWire_quiet (hv : s.net.levelOf p = v) (hq : s.net.Quiet (s.net.followers p)) :
    ∃ m, (updateWire order (callSink tick w) p).run s = .ok () (s.withNet m) ∧
      s.net.Spread v (s.net.followers p) m := by
  obtain ⟨m, hrun, hm⟩ := run_visitAll_quiet (order := order) (tick := tick) (w := w) hv
    (fun h => (Net.mem_followers.mp h).2 rfl) ((nodup_netOf s.net.links p).filter _) hq
  exact ⟨m, by rw [← hrun]; rfl, hm⟩

/-- A change of an OUTPUT pin whose net has quiet sinks. -/
theorem run_setLevel_quiet (hw : w.Live) (hd : s.net.directionOf p = some .output) (hv : s.net.levelOf p ≠ v)
    (hq : s.net.Quiet (s.net.followers p)) :
    ∃ m, (w.setLevel p v).run s = .ok true (s.withNet m) ∧
      (s.net.putLevel p v).Spread v (s.net.followers p) m := by
  obtain ⟨tick, order, bound, fuel, hb, rfl⟩ := hw
  obtain ⟨fuel, rfl⟩ := Nat.exists_eq_add_of_le' hb
  have hf : (s.net.putLevel p v).followers p = s.net.followers p := by simp [Net.followers]
  obtain ⟨m, hrun, hm⟩ := run_updateWire_quiet (s := s.mapNet (fun n => n.putLevel p v)) (p := p) (v := v) (tick := tick)
    (order := order) (w := wiring tick order bound fuel) (by simp [State.mapNet, Net.levelOf_putLevel, hd])
    (by simpa [State.mapNet, hf] using hq.of_wires (Net.wires_putLevel ..))
  refine ⟨m, ?_, hf ▸ hm⟩
  show (changeLevel p v (involving [p] _)).run s = _
  rw [run_changeLevel_output hd hv, EStateM.run_bind, run_involving_ok hrun]
  rfl

/-- What a change of pin `p` to level `v` does to a network where the pin's net has no sinks. -/
structure Net.Drives (p : PinId) (v : Level) (n m : Net) : Prop where
  wires : m.wires = n.wires
  direction : ∀ x, m.directionOf x = n.directionOf x
  level : ∀ x, m.levelOf x = if x = p ∨ x ∈ n.followers p ∧ n.directionOf x = some .input then v else n.levelOf x
  notes : m.notes = n.notes
  choices : (n.followers p).length ≤ 1 → m.choices = n.choices

theorem Net.Spread.drives (h : (n.putLevel p v).Spread v (n.followers p) m) (hd : n.directionOf p ≠ none)
    (hs : ∀ q ∈ n.followers p, n.sinkOf q = none) : n.Drives p v m where
  wires := h.wires.trans (n.wires_putLevel p v)
  direction x := (h.direction x).trans (n.directionOf_putLevel p x v)
  level x := by
    rw [h.level, Net.directionOf_putLevel, n.levelOf_putLevel p x v hd]
    by_cases hx : x = p <;> simp [hx]
  notes := by
    obtain ⟨calls, hn, hc⟩ := h.notes
    have hnone : (n.putLevel p v).calls v (n.followers p) = [] := by simp +contextual [Net.calls, hs]
    rw [hnone] at hc
    rw [hn, hc.eq_nil, Net.notes_putLevel]
    rfl
  choices hl := (h.choices hl).trans (n.choices_putLevel p v)

/-- A change of an OUTPUT pin whose net has no sinks. -/
theorem run_setLevel_drives (hw : w.Live) (hd : s.net.directionOf p = some .output) (hv : s.net.levelOf p ≠ v)
    (hs : ∀ q ∈ s.net.followers p, s.net.sinkOf q = none) :
    ∃ m, (w.setLevel p v).run s = .ok true (s.withNet m) ∧ s.net.Drives p v m := by
  obtain ⟨m, hrun, hm⟩ := run_setLevel_quiet hw hd hv
    fun q hq k hk => by simp [hs q hq] at hk
  exact ⟨m, hrun, hm.drives (by simp [hd]) hs⟩

/-- The setters of an outermost call (R214). -/
def State.wiring (s : State) (order : Nat → Nat) : Wiring :=
  Machine.wiring pinStepWith order s.params.maxDepth s.params.maxDepth

theorem State.wiring_live (s : State) (hb : 1 ≤ s.params.maxDepth) : (s.wiring order).Live := Machine.wiring_live hb

/-- The owner's call on a settled network is the setter at full depth. -/
theorem run_setLevel (ho : s.net.ownerOf p = some who) (hu : s.net.unsettled = false) :
    (setLevel order who p v).run s = ((s.wiring order).setLevel p v).run s := by
  rw [setLevel, EStateM.run_bind, run_checkOwner ho]
  exact run_withWiring hu

/-- Settles O50: the checks of the setter at any depth, and an update that visits no pin. -/
theorem levelSetterContract : Obligations.LevelSetterContract := by
  intro order who p v s ho hu
  rw [run_setLevel ho hu]
  obtain ⟨update, hset⟩ := exists_setLevel_eq (tick := pinStepWith) (order := order) (bound := s.params.maxDepth)
    s.params.maxDepth p v
  rw [← State.wiring] at hset
  refine ⟨fun hd => ?_, fun hd => ?_, fun hd hv => ?_, fun hd hv hl hb => ?_⟩
  · rw [hset, run_changeLevel_input hd]
    exact run_raiseFault rfl
  · rw [hset, run_changeLevel_hiZ hd]
  · rw [hset, run_changeLevel_same hd hv]
  · have hf : s.net.followers p = [] := by simp [Net.followers, hl, netOf_nil]
    obtain ⟨m, hrun, hm⟩ := run_setLevel_quiet (s.wiring_live (order := order) hb) hd hv
      (by simp [hf, Net.Quiet])
    rw [hf] at hm
    rw [hrun, hm.eq_of_nil]
    rfl

/-- Settles O51: the followers of the pin take its level if they are INPUT, and there is no sink to call. -/
theorem propagationSettlesANet : Obligations.PropagationSettlesANet := by
  intro order who p v s ho hd hv hb hu hs
  obtain ⟨m, hrun, hm⟩ := run_setLevel_drives (s.wiring_live (order := order) hb) hd hv
    fun q hq => hs q (Net.mem_followers.mp hq).1
  refine ⟨s.withNet m, (run_setLevel ho hu).trans hrun, by simp [hm.level], Net.links_of_wires hm.wires, hm.notes, rfl,
    fun q hq hqp => ?_, fun q hq => ?_, hm.direction⟩
  · simp [hm.level, Net.mem_followers, hq, hqp]
  · have hqp : q ≠ p := fun e => hq (e ▸ mem_netOf_self _ _)
    simp [hm.level, Net.mem_followers, hq, hqp]

end Sys2Proof.Machine
end

section
/-! PROOFS. What a row of the sequence tables does at the end of its cycle leaves the network, and does not depend on the pins
of other components (R102, R305); so the CPU's pins at the end of a micro-cycle are those its transaction settles (R260, R262). -/

namespace Sys2Proof.Machine

/-- The state with other pins created by components. -/
def State.withPins (s : State) (ps : List Pin) : State := s.mapNet (fun n => { n with pins := ps })

/-- An update that leaves the network and does not depend on the pins created by components. -/
structure Blind (f : State → State) : Prop where
  net : ∀ t, (f t).net = t.net
  comm : ∀ t ps, f (t.withPins ps) = (f t).withPins ps

variable {f g : State → State}

theorem Blind.comp (hg : Blind g) (hf : Blind f) : Blind (fun t => g (f t)) where
  net t := (hg.net _).trans (hf.net t)
  comm t ps := by rw [hf.comm, hg.comm]

/-- An update whose definition says that it is blind. -/
theorem Blind.direct (net : ∀ t, (f t).net = t.net := by exact fun _ => rfl)
    (comm : ∀ t ps, f (t.withPins ps) = (f t).withPins ps := by exact fun _ _ => rfl) : Blind f := ⟨net, comm⟩

theorem Blind.poll : Blind State.poll where
  net t := by unfold State.poll; split <;> rfl
  comm t ps := by
    have hp : (t.withPins ps).params = t.params := rfl
    unfold State.poll
    rw [hp]
    split <;> rfl

theorem Blind.endInstr : Blind State.endInstr where
  net t := by unfold State.endInstr; split <;> rfl
  comm t ps := by
    have hp : (t.withPins ps).params = t.params := rfl
    unfold State.endInstr
    rw [hp]
    split <;> rfl

theorem Blind.endTrap : Blind State.endTrap where
  net t := by unfold State.endTrap; split <;> rfl
  comm t ps := by
    have hp : (t.withPins ps).params = t.params := rfl
    unfold State.endTrap
    rw [hp]
    split <;> rfl

/-- A choice that does not depend on those pins either. -/
theorem Blind.ite {c : State → Prop} [DecidablePred c] (hc : ∀ t ps, c (t.withPins ps) ↔ c t) (hf : Blind f) (hg : Blind g) :
    Blind (fun t => if c t then f t else g t) where
  net t := by split <;> simp [hf.net, hg.net]
  comm t ps := by
    simp only [hc]
    split
    · exact hf.comm t ps
    · exact hg.comm t ps

theorem Blind.pollIf {now : State → Bool} (hn : ∀ t ps, now (t.withPins ps) = now t) :
    Blind (fun t => t.pollIf (now t)) :=
  .ite (fun t ps => by rw [hn]) .poll .direct

/-! ### The rows' operations -/

/-- The operation at the end of the row's cycle is blind. -/
def Row.Blind : Row → Prop
  | .read _ after => ∀ v, Machine.Blind (after v)
  | .write _ _ after => Machine.Blind after

theorem Row.Blind.andThen {r : Row} (h : r.Blind) (hf : Machine.Blind f) : (r.andThen f).Blind := by
  cases r with
  | read addr after => exact fun v => hf.comp (h v)
  | write addr v after => exact hf.comp h

theorem headRow_blind (m : MemMode) (c : Nat) (s : State) : (headRow m c s).Blind := by
  unfold headRow
  dsimp only
  split <;> exact fun v => .direct

theorem oneCycleOperand_blind (m : MemMode) (forced : Bool) {last : Row} (h : last.Blind) (c : Nat) (s : State) :
    (oneCycleOperand m forced last c s).Blind := by
  unfold oneCycleOperand
  split
  · exact (headRow_blind m c s).andThen (.pollIf fun t ps => by cases m <;> rfl)
  · exact h

theorem modifyRow_blind (m : MemMode) (result : Byte → State → Byte) {effect : Byte → State → State}
    (he : ∀ v, Blind (effect v)) (c : Nat) (s : State) : (modifyRow m result effect c s).Blind := by
  unfold modifyRow
  dsimp only
  split
  · exact headRow_blind m c s
  split
  · exact fun v => .direct
  split
  · exact Blind.poll
  · exact Blind.endInstr.comp (he _)

theorem branchRow_blind (cond : Flags → Bool) (c : Nat) (s : State) : (branchRow cond c s).Blind := by
  unfold branchRow
  split
  · exact fun v => (Blind.ite (c := fun t => cond t.p = true) (f := fun t => t.latchOffset v) (fun _ _ => Iff.rfl) .direct
      .endInstr).comp (f := State.incPc) .direct
  · exact fun v => .ite (fun _ _ => Iff.rfl) (Blind.endInstr.comp .direct)
      (Blind.poll.comp .direct)
  · exact fun v => Blind.endInstr.comp .direct

theorem vectorRow_blind (lo hi : Word) (c : Nat) : (vectorRow lo hi c).Blind := by
  unfold vectorRow
  split
  · exact fun v => Blind.poll.comp .direct
  · exact fun v => Blind.endTrap.comp .direct

theorem trapRow_blind (b : Bool) (c : Nat) (s : State) : (trapRow b c s).Blind := by
  unfold trapRow
  split
  case h_4 => exact vectorRow_blind _ _ c
  all_goals exact .direct

theorem irqRow_blind (c : Nat) (s : State) : (irqRow c s).Blind := by
  unfold irqRow
  split
  case h_3 => exact trapRow_blind false c s
  all_goals exact fun v => .direct

theorem resetRow_blind (c : Nat) (s : State) : (resetRow c s).Blind := by
  unfold resetRow
  split
  case h_6 => exact vectorRow_blind _ _ c
  all_goals exact fun v => .direct

/-- The operation of a kind is blind. -/
def Kind.Blind (k : Kind) : Prop := ∀ v, Machine.Blind (k.effect v)

/-- The operations of the table's entries, row by row, by definition. -/
theorem kindTable_blind : ∀ row ∈ kindTable, ∀ k ∈ row, k.Blind := by
  intro row hrow
  fin_cases hrow
  all_goals
    intro k hk
    fin_cases hk
  all_goals exact fun _ => .direct

/-- The operation of every opcode's instruction is blind. -/
theorem kindOf_blind (opcode : Byte) : (kindOf opcode).Blind := by
  unfold kindOf
  cases hrow : kindTable[opcode.toNat / 16]? with
  | none => exact fun _ => .direct
  | some row =>
    cases hk : row[opcode.toNat % 16]? with
    | none =>
      simp only [Option.getD_some, hk, Option.getD_none]
      exact fun _ => .direct
    | some k =>
      simp only [Option.getD_some, hk]
      exact kindTable_blind row (List.mem_of_getElem? hrow) k (List.mem_of_getElem? hk)

/-- Every row of an instruction, its operation being blind. -/
theorem instrRow_blind {k : Kind} (he : k.Blind) (c : Nat) (s : State) : (instrRow k c s).Blind := by
  cases k with
  | implied e => exact fun v => Blind.endInstr.comp (he v)
  | acc result e => exact fun v => Blind.endInstr.comp (he v)
  | imm e => exact fun v => (Blind.endInstr.comp (he v)).comp (f := State.incPc) .direct
  | read m e =>
    refine oneCycleOperand_blind m false ?_ c s
    exact fun v => Blind.endInstr.comp (he v)
  | write m value =>
    refine oneCycleOperand_blind m true ?_ c s
    exact Blind.endInstr
  | rmw m result e => exact modifyRow_blind m result he c s
  | high m reg e =>
    refine oneCycleOperand_blind m true ?_ c s
    exact Blind.endInstr.comp (he 0)
  | branch cond => exact branchRow_blind cond c s
  | push value =>
    simp only [instrRow, pushRow]
    split
    · exact fun v => Blind.poll
    · exact Blind.endInstr.comp (f := State.decSp) .direct
  | pull e =>
    simp only [instrRow, pullRow]
    split
    · exact fun v => .direct
    · exact fun v => Blind.poll.comp (f := State.incSp) .direct
    · exact fun v => Blind.endInstr.comp (he v)
  | jmpAbs =>
    simp only [instrRow, jmpAbsRow]
    split
    · exact fun v => Blind.poll.comp .direct
    · exact fun v => Blind.endInstr.comp .direct
  | jmpInd =>
    simp only [instrRow, jmpIndRow]
    split
    · exact fun v => .direct
    · exact fun v => .direct
    · exact fun v => Blind.poll.comp .direct
    · exact fun v => Blind.endInstr.comp .direct
  | jsr =>
    simp only [instrRow, jsrRow]
    split
    · exact fun v => .direct
    · exact fun v => .direct
    · exact .direct
    · exact Blind.poll.comp (f := State.decSp) .direct
    · exact fun v => Blind.endInstr.comp .direct
  | rts =>
    simp only [instrRow, rtsRow]
    split
    · exact fun v => .direct
    · exact fun v => .direct
    · exact fun v => .direct
    · exact fun v => Blind.poll.comp .direct
    · exact fun v => Blind.endInstr.comp (f := State.incPc) .direct
  | rti =>
    simp only [instrRow, rtiRow]
    split
    · exact fun v => .direct
    · exact fun v => .direct
    · exact fun v => .direct
    · exact fun v => Blind.poll.comp .direct
    · exact fun v => Blind.endInstr.comp .direct
  | brk =>
    simp only [instrRow, brkRow]
    split
    · exact fun v => .direct
    · exact trapRow_blind true c s
  | jam => exact fun v => Blind.endInstr

theorem afterOpcode_blind (op : Byte) : Blind (afterOpcode op) := by
  unfold afterOpcode
  split
  · exact .direct
  · exact .pollIf (now := fun _ => _) fun _ _ => rfl

/-- The row of the next cycle, whatever the state. -/
theorem State.currentRow_blind (s : State) : s.currentRow.Blind := by
  unfold State.currentRow
  split
  · exact fun v => (afterOpcode_blind v).comp .direct
  · split
    · exact instrRow_blind (kindOf_blind _) _ s
    · exact irqRow_blind _ s
    · exact resetRow_blind _ s

/-! ### The CPU's pins at the end of a micro-cycle -/

/-- The CPU's pins at the end of the cycle of a transaction. -/
def CpuPins.afterCycle (p : CpuPins) (addr : Word) (rw : Rw) (v : Byte) : CpuPins :=
  match rw with
  | .read => p.afterRead addr v
  | .write => p.afterWrite addr v

/-- A micro-cycle leaves the network but for the CPU's pins. -/
theorem State.microCycle_net (s : State) : s.microCycle.net = { s.net with cpu := s.microCycle.net.cpu } := by
  have hblind := s.currentRow_blind
  unfold State.microCycle
  cases e : s.currentRow with
  | read addr after =>
    rw [e] at hblind
    dsimp only
    split
    · rfl
    · rw [(hblind _).net]
      rfl
  | write addr v after =>
    rw [e] at hblind
    dsimp only
    rw [hblind.net]
    rfl

/-- So does a step. -/
theorem microStep_net (s : State) : (microStep s).net = { s.net with cpu := (microStep s).net.cpu } := by
  unfold microStep
  cases e : s.prelude with
  | idle t =>
    obtain ⟨_, _, _, _, _, rfl⟩ := State.prelude_frame (.inl e)
    rfl
  | run t =>
    obtain ⟨_, _, _, _, _, rfl⟩ := State.prelude_frame (.inr e)
    exact State.microCycle_net _

/-- A micro-cycle that performs a transaction leaves the pins that it settles. -/
theorem State.microCycle_cpu {s : State} {x : Txn} (h : s.microCycle.trace = x :: s.trace) :
    s.microCycle.net.cpu = s.net.cpu.afterCycle x.addr x.rw x.data := by
  have hsilent := s.currentRow_silent
  have hblind := s.currentRow_blind
  unfold State.microCycle at h ⊢
  cases e : s.currentRow with
  | read addr after =>
    rw [e] at hsilent hblind
    simp only [e] at h ⊢
    split at h
    · exact absurd h (by simp [State.stallCycle, State.idleCycle])
    · rename_i hr
      rw [if_neg hr, (hblind _).net]
      have ht := congrArg BusView.trace (hsilent (s.busRead addr) (s.readCycle addr))
      obtain rfl := (List.cons.inj (h.symm.trans ht)).1
      rfl
  | write addr v after =>
    rw [e] at hsilent hblind
    simp only [e] at h ⊢
    rw [hblind.net]
    have ht := congrArg BusView.trace (hsilent (s.writeCycle addr v))
    obtain rfl := (List.cons.inj (h.symm.trans ht)).1
    rfl

/-- Settles O19: the checks of R300 leave the pins, and the one cycle settles those of its transaction. -/
theorem pinsSettleAfterACycle : Obligations.PinsSettleAfterACycle := by
  intro s x h
  have hcpu : (microStep s).net.cpu = s.net.cpu.afterCycle x.addr x.rw x.data := by
    unfold microStep at h ⊢
    cases e : s.prelude with
    | idle t =>
      obtain ⟨_, _, _, _, _, rfl⟩ := State.prelude_frame (.inl e)
      rw [e] at h
      exact absurd h (by simp [State.idleCycle])
    | run t =>
      obtain ⟨_, _, _, _, _, rfl⟩ := State.prelude_frame (.inr e)
      rw [e] at h
      exact State.microCycle_cpu h
  rw [hcpu]
  refine ⟨fun ha => ?_, fun ha => ?_⟩ <;> cases hx : x.rw
  all_goals simp [CpuPins.afterCycle, CpuPins.afterRead, CpuPins.afterWrite, CpuPins.released, ha]

end Sys2Proof.Machine
end

section
/-! PROOFS. Buses (R222, R223): the value of a list of pins, what a write of its bits leaves, and the round trip from an output
bus to an input bus wired to it (R225). -/

namespace Sys2Proof.Machine

variable {n m : Net} {s : State} {p q : PinId} {v : Level} {order : Nat → Nat} {tick : Wiring → NetM Unit}
  {bound fuel : Nat} {w : Wiring} {who : Owner} {ps : List PinId} {b : BusId} {d : Direction}

/-! ### The value of a list of pins -/

theorem Net.valueOf_congr (h : ∀ p ∈ ps, m.levelOf p = n.levelOf p) : m.valueOf ps = n.valueOf ps := by
  induction ps with
  | nil => rfl
  | cons p rest ih =>
    rw [Net.valueOf, Net.valueOf, h p (by simp), ih fun q hq => h q (by simp [hq])]

theorem Level.ofBool_eq_high (b : Bool) : Level.ofBool b = .high ↔ b = true := by cases b <;> simp [Level.ofBool]

/-- A number is its lowest bit and the rest (R227). -/
theorem mod_two_pow_succ (value k : Nat) : value % 2 ^ (k + 1) =
    (if Level.ofBool (value.testBit 0) = .high then 1 else 0) + 2 * (value / 2 % 2 ^ k) := by
  rw [Nat.pow_succ', Nat.mod_mul]
  simp only [Level.ofBool_eq_high, Nat.testBit_zero, decide_eq_true_eq]
  congr 1
  split <;> omega

/-- Pins that hold the bits of a number form it, modulo two to their count. -/
theorem Net.valueOf_eq {value : Nat} (h : ∀ (i : Nat) (p : PinId), ps[i]? = some p → n.levelOf p = Level.ofBool (value.testBit i)) :
    n.valueOf ps = value % 2 ^ ps.length := by
  induction ps generalizing value with
  | nil => simp [Net.valueOf, Nat.mod_one]
  | cons p rest ih =>
    rw [Net.valueOf, List.length_cons, mod_two_pow_succ, h 0 p rfl, ih fun i q hq => ?_]
    rw [h (i + 1) q hq, Nat.testBit_succ]

theorem Net.sharedDirection_eq (hne : ps ≠ []) (h : ∀ p ∈ ps, n.directionOf p = some d) : n.sharedDirection ps = some d := by
  cases ps with
  | nil => exact absurd rfl hne
  | cons p rest =>
    have hrest : rest.all (fun q => decide (n.directionOf q = some d)) = true := by
      simpa using fun q hq => h q (List.mem_cons_of_mem p hq)
    simp [Net.sharedDirection, h p, hrest]

/-- Two numbers differ if their lowest bits, as levels, or the rests differ. -/
theorem bit_add_ne_iff (l k : Level) (x y : Nat) :
    (if l = .high then 1 else 0) + 2 * x ≠ (if k = .high then 1 else 0) + 2 * y ↔ k ≠ l ∨ x ≠ y := by
  cases l <;> cases k <;> simp <;> omega

/-! ### Writing bits -/

/-- What a write of bits leaves of the pins `D`, when each pin takes the pins `g` of it along, and no two pins share one. -/
theorem run_writeBits {setter : PinId → Level → NetM Bool} {I : Net → Prop} {D : PinId → Prop} {g : PinId → List PinId}
    (hset : ∀ p ∈ ps, ∀ (v : Level) (s : State), I s.net →
      ∃ changed m, (setter p v).run s = .ok changed (s.withNet m) ∧ (changed = true ↔ s.net.levelOf p ≠ v) ∧ I m ∧
        ∀ x, D x → m.levelOf x = if x ∈ g p then v else s.net.levelOf x)
    (hself : ∀ p ∈ ps, D p ∧ p ∈ g p) (hdisj : ps.Pairwise (fun p q => ∀ x, D x → x ∈ g p → x ∉ g q)) (value : Nat)
    (hI : I s.net) :
    ∃ changed m, (writeBits setter value ps).run s = .ok changed (s.withNet m) ∧
      (changed = true ↔ value % 2 ^ ps.length ≠ s.net.valueOf ps) ∧ I m ∧
      (∀ (i : Nat) (p x : PinId), ps[i]? = some p → D x → x ∈ g p → m.levelOf x = Level.ofBool (value.testBit i)) ∧
      ∀ x, D x → (∀ p ∈ ps, x ∉ g p) → m.levelOf x = s.net.levelOf x := by
  induction ps generalizing value s with
  | nil => exact ⟨false, s.net, rfl, by simp [Net.valueOf, Nat.mod_one], hI, nofun, fun _ _ _ => rfl⟩
  | cons p rest ih =>
    obtain ⟨hp, hrest⟩ := List.pairwise_cons.mp hdisj
    obtain ⟨c1, m1, hrun1, hc1, hI1, hl1⟩ := hset p (by simp) (Level.ofBool (value.testBit 0)) s hI
    obtain ⟨c2, m2, hrun2, hc2, hI2, hb2, ho2⟩ := ih (s := s.withNet m1) (fun q hq => hset q (by simp [hq]))
      (fun q hq => hself q (by simp [hq])) hrest (value / 2) hI1
    simp only [State.withNet_net, State.withNet_withNet] at hrun2 hc2 ho2
    have hold : m1.valueOf rest = s.net.valueOf rest := Net.valueOf_congr fun q hq => by
      obtain ⟨hD, hqq⟩ := hself q (by simp [hq])
      rw [hl1 q hD, if_neg fun h => hp q hq q hD h hqq]
    refine ⟨c1 || c2, m2, ?_, ?_, hI2, fun i q x hq hD hx => ?_, fun x hD hx => ?_⟩
    · rw [writeBits, run_bind_ok hrun1, run_bind_ok hrun2, EStateM.run_pure]
    · rw [Bool.or_eq_true, hc1, hc2, hold, Net.valueOf, List.length_cons, mod_two_pow_succ, bit_add_ne_iff]
    · cases i with
      | zero =>
        cases hq
        rw [ho2 x hD fun q hq => hp q hq x hD hx, hl1 x hD, if_pos hx]
      | succ i => rw [hb2 i q x hq hD hx, Nat.testBit_succ]
    · rw [ho2 x hD fun q hq => hx q (by simp [hq]), hl1 x hD, if_neg (hx p (by simp))]

/-! ### Pins that drive their nets alone -/

/-- What a change of levels alone leaves of a network. -/
structure Net.Relevels (n m : Net) : Prop where
  wires : m.wires = n.wires
  notes : m.notes = n.notes
  choices : m.choices = n.choices
  direction : ∀ x, m.directionOf x = n.directionOf x

theorem Net.Relevels.refl (n : Net) : n.Relevels n := ⟨rfl, rfl, rfl, fun _ => rfl⟩

theorem Net.Relevels.trans {k : Net} (h : n.Relevels m) (g : m.Relevels k) : n.Relevels k :=
  ⟨g.wires.trans h.wires, g.notes.trans h.notes, g.choices.trans h.choices, fun x => (g.direction x).trans (h.direction x)⟩

/-- An OUTPUT pin whose net has at most one other pin, an INPUT pin with no sink. -/
structure Net.Leads (n : Net) (p : PinId) : Prop where
  output : n.directionOf p = some .output
  one : (n.followers p).length ≤ 1
  follower : ∀ q ∈ n.followers p, n.directionOf q = some .input ∧ n.sinkOf q = none

theorem Net.Relevels.followers (h : n.Relevels m) (p : PinId) : m.followers p = n.followers p := by
  rw [Net.followers, Net.links_of_wires h.wires, Net.followers]

theorem Net.Leads.of_relevels (hl : n.Leads p) (h : n.Relevels m) : m.Leads p where
  output := (h.direction p).trans hl.output
  one := by rw [h.followers]; exact hl.one
  follower q hq := by
    rw [h.followers] at hq
    rw [h.direction, Net.sinkOf_of_wires h.wires]
    exact hl.follower q hq

/-- Such a pin takes its whole net to a new level. -/
theorem run_setLevel_leads (hw : w.Live) (hl : s.net.Leads p) (hv : s.net.levelOf p ≠ v) :
    ∃ m, (w.setLevel p v).run s = .ok true (s.withNet m) ∧ s.net.Relevels m ∧
      ∀ x, m.levelOf x = if x ∈ netOf s.net.links p then v else s.net.levelOf x := by
  obtain ⟨m, hrun, hm⟩ := run_setLevel_drives hw hl.output hv fun q hq => (hl.follower q hq).2
  refine ⟨m, hrun, ⟨hm.wires, hm.notes, hm.choices hl.one, hm.direction⟩, fun x => ?_⟩
  rw [hm.level]
  by_cases hx : x = p
  · simp [hx, mem_netOf_self]
  · by_cases hxn : x ∈ netOf s.net.links p
    · simp [hxn, Net.mem_followers, hx, (hl.follower x (Net.mem_followers.mpr ⟨hxn, hx⟩)).1]
    · simp [hxn, Net.mem_followers, hx]

/-- The pins of a net all hold one level. -/
def Net.Coherent (n : Net) (p : PinId) : Prop := ∀ x ∈ netOf n.links p, n.levelOf x = n.levelOf p

/-- On a coherent net the whole net has the level afterwards, whether it is new or not. -/
theorem run_setLevel_coherent (hw : w.Live) (hl : s.net.Leads p) (hc : s.net.Coherent p) (v : Level) :
    ∃ changed m, (w.setLevel p v).run s = .ok changed (s.withNet m) ∧
      (changed = true ↔ s.net.levelOf p ≠ v) ∧ s.net.Relevels m ∧
      ∀ x, m.levelOf x = if x ∈ netOf s.net.links p then v else s.net.levelOf x := by
  by_cases hv : s.net.levelOf p = v
  · refine ⟨false, s.net, hw.run_setLevel_same hl.output hv, by simp [hv], .refl _, fun x => ?_⟩
    split
    next hx => rw [hc x hx, hv]
    next => rfl
  · obtain ⟨m, hrun, hm⟩ := run_setLevel_leads hw hl hv
    exact ⟨true, m, hrun, by simp [hv], hm⟩

/-- A write of bits to pins of different coherent nets. -/
theorem run_writeBits_coherent (hw : w.Live) (hl : ∀ p ∈ ps, s.net.Leads p) (hc : ∀ p ∈ ps, s.net.Coherent p)
    (hdisj : ps.Pairwise (fun p q => ∀ x ∈ netOf s.net.links p, x ∉ netOf s.net.links q)) (value : Nat) :
    ∃ changed m, (writeBits w.setLevel value ps).run s = .ok changed (s.withNet m) ∧
      (changed = true ↔ value % 2 ^ ps.length ≠ s.net.valueOf ps) ∧ s.net.Relevels m ∧
      (∀ (i : Nat) (p x : PinId), ps[i]? = some p → x ∈ netOf s.net.links p → m.levelOf x = Level.ofBool (value.testBit i)) ∧
      ∀ x, (∀ p ∈ ps, x ∉ netOf s.net.links p) → m.levelOf x = s.net.levelOf x := by
  have hset : ∀ p ∈ ps, ∀ (v : Level) (t : State), s.net.Relevels t.net ∧ (∀ q ∈ ps, t.net.Coherent q) →
      ∃ changed m, (w.setLevel p v).run t = .ok changed (t.withNet m) ∧
        (changed = true ↔ t.net.levelOf p ≠ v) ∧ (s.net.Relevels m ∧ ∀ q ∈ ps, m.Coherent q) ∧
        ∀ x, True → m.levelOf x = if x ∈ netOf s.net.links p then v else t.net.levelOf x := by
    intro p hp v t ⟨ht, hct⟩
    obtain ⟨changed, m, hrun, hch, hm, hlm⟩ := run_setLevel_coherent hw
      ((hl p hp).of_relevels ht) (hct p hp) v
    rw [Net.links_of_wires ht.wires] at hlm
    refine ⟨changed, m, hrun, hch, ⟨ht.trans hm, fun q hq x hx => ?_⟩, fun x _ => hlm x⟩
    rw [Net.links_of_wires (ht.trans hm).wires] at hx
    by_cases hqp : q = p
    · rw [hlm, hlm, if_pos (hqp ▸ hx), if_pos (hqp ▸ mem_netOf_self _ _)]
    · have : Std.Symm (fun p q => ∀ x ∈ netOf s.net.links p, x ∉ netOf s.net.links q) := ⟨fun a b h x hb ha => h x ha hb⟩
      have hno := hdisj.forall hq hp hqp
      rw [hlm, hlm, if_neg (hno x hx), if_neg (hno q (mem_netOf_self _ _))]
      exact hct q hq x (by rwa [Net.links_of_wires ht.wires])
  obtain ⟨changed, m, hrun, hch, ⟨hm, -⟩, hbits, hold⟩ := run_writeBits
    (I := fun m => s.net.Relevels m ∧ ∀ q ∈ ps, m.Coherent q) (D := fun _ => True) hset (fun p _ => ⟨trivial, mem_netOf_self _ _⟩) (hdisj.imp fun h x _ => h x) value ⟨.refl _, hc⟩
  exact ⟨changed, m, hrun, hch, hm, fun i p x hp hx => hbits i p x hp trivial hx, fun x hx => hold x trivial hx⟩

/-! ### Bus calls (R222, R223) -/

theorem run_busPinsOf (h : s.net.busPins b = some ps) : (busPinsOf b).run s = .ok ps s := by
  simp [busPinsOf, h]

/-- Reading a bus whose pins agree in direction. -/
theorem run_busValue (h : s.net.busPins b = some ps) (hd : s.net.sharedDirection ps = some d) :
    (busValue b).run s = .ok (s.net.valueOf ps) s := by
  rw [busValue, run_bind_ok (run_busPinsOf h)]
  simp [hd]

/-- Writing a bus of OUTPUT pins: its bits, then its aggregate sink if a pin changed. -/
theorem run_writeBusWith {setter : PinId → Level → NetM Bool} {heard : BusSink → List PinId → Nat → NetM Unit} {value : Nat}
    {changed : Bool} (h : s.net.busPins b = some ps) (hd : s.net.sharedDirection ps = some .output)
    (hw : (writeBits setter (value % 2 ^ ps.length) ps).run s = .ok changed (s.withNet m)) :
    (writeBusWith setter heard b value).run s =
      match m.busSink b with
      | some k =>
        if changed then
          (heard k ps (value % 2 ^ ps.length) >>= fun _ => pure changed : NetM Bool).run
            (s.withNet { m with notes := .bus b (value % 2 ^ ps.length) :: m.notes })
        else .ok changed (s.withNet m)
      | none => .ok changed (s.withNet m) := by
  rw [writeBusWith, run_bind_ok (run_busPinsOf h)]
  simp only [EStateM.run_bind, EStateM.run_get, hd, hw]
  rw [State.withNet_net]
  cases m.busSink b with
  | none => rfl
  | some k => cases changed <;> rfl

theorem wiring_writeBus (fuel : Nat) : (wiring tick order bound fuel).writeBus =
    busSetter tick (wiring tick order bound fuel).setLevel bound := by
  cases fuel <;> rfl

theorem State.writeBus_wiring (s : State) (order : Nat → Nat) :
    (s.wiring order).writeBus = busSetter pinStepWith (s.wiring order).setLevel s.params.maxDepth := wiring_writeBus _

/-- Where the bound allows it, the bus setter calls an aggregate sink. -/
theorem busSetter_eq (setter : PinId → Level → NetM Bool) (hb : 1 ≤ bound) : ∃ inner, busSetter tick setter bound =
    writeBusWith setter (fun sink ps v => involving ps (runSink tick inner sink.owner v sink.sink)) := by
  obtain ⟨k, rfl⟩ := Nat.exists_eq_add_of_le' hb
  exact ⟨{ setLevel := setter, writeBus := busSetter tick setter k }, rfl⟩

theorem exists_busSetter_eq (setter : PinId → Level → NetM Bool) (bound : Nat) :
    ∃ heard, busSetter tick setter bound = writeBusWith setter heard := by
  rcases Nat.eq_zero_or_pos bound with rfl | hb
  · exact ⟨fun _ ps _ => involving ps (overflow (ps.headD .rw)), rfl⟩
  · obtain ⟨inner, h⟩ := busSetter_eq (tick := tick) setter hb
    exact ⟨_, h⟩

/-- At every depth the bus setter writes with the pin setter of that depth; only what an aggregate sink does differs. -/
theorem Wiring.Live.exists_writeBus_eq (hw : w.Live) : ∃ heard, w.writeBus = writeBusWith w.setLevel heard := by
  obtain ⟨tick, order, bound, fuel, -, rfl⟩ := hw
  rw [wiring_writeBus]
  exact exists_busSetter_eq _ bound

/-- The owner of a bus's pins may write it (R208). -/
theorem run_checkBusOwner (h : s.net.busPins b = some ps) (ho : ∀ p ∈ ps, s.net.ownerOf p = some who) :
    (checkBusOwner who b).run s = .ok () s := by
  rw [checkBusOwner, run_bind_ok (run_busPinsOf h)]
  clear h
  induction ps with
  | nil => rfl
  | cons p rest ih =>
    refine (run_bind_ok (run_checkOwner (ho p (by simp)))).trans ?_
    exact ih fun q hq => ho q (by simp [hq])

theorem run_busWrite {value : Nat} (h : s.net.busPins b = some ps) (ho : ∀ p ∈ ps, s.net.ownerOf p = some who)
    (hu : s.net.unsettled = false) : (busWrite order who b value).run s =
      ((s.wiring order).writeBus b value).run s := by
  rw [busWrite, run_bind_ok (run_checkBusOwner h ho)]
  exact run_withWiring hu

/-- A bus without an aggregate sink, written where its pins lead coherent nets of their own. -/
theorem run_writeBus_coherent (hw : w.Live) (h : s.net.busPins b = some ps) (hne : ps ≠ []) (hk : s.net.busSink b = none)
    (hl : ∀ p ∈ ps, s.net.Leads p) (hc : ∀ p ∈ ps, s.net.Coherent p)
    (hdisj : ps.Pairwise (fun p q => ∀ x ∈ netOf s.net.links p, x ∉ netOf s.net.links q)) (value : Nat) :
    ∃ changed m, (w.writeBus b value).run s = .ok changed (s.withNet m) ∧ s.net.Relevels m ∧
      (∀ (i : Nat) (p x : PinId), ps[i]? = some p → x ∈ netOf s.net.links p →
        m.levelOf x = Level.ofBool ((value % 2 ^ ps.length).testBit i)) ∧
      ∀ x, (∀ p ∈ ps, x ∉ netOf s.net.links p) → m.levelOf x = s.net.levelOf x := by
  obtain ⟨heard, hwrite⟩ := hw.exists_writeBus_eq
  obtain ⟨changed, m, hrun, -, hm⟩ := run_writeBits_coherent hw hl hc hdisj
    (value % 2 ^ ps.length)
  refine ⟨changed, m, ?_, hm⟩
  rw [hwrite, run_writeBusWith h (Net.sharedDirection_eq hne fun p hp => (hl p hp).output) hrun,
    Net.busSink_of_wires hm.1.wires, hk]

/-- Settles O52: each pin of the output bus leads a coherent net with its pin of the input bus, so both hold the bits written. -/
theorem busRoundTrip : Obligations.BusRoundTrip := by
  intro order who b c ps qs value s hb hc hne hlen hnd hdep hu hk hps hqs hnet
  obtain ⟨hndp, hndq, hpq⟩ := List.nodup_append.mp hnd
  have hpair (i : Nat) (hi : i < ps.length) : netOf s.net.links ps[i] = [ps[i], qs[i]] ∧ s.net.levelOf qs[i] = s.net.levelOf ps[i] :=
    hnet i _ _ (List.getElem?_eq_getElem hi) (List.getElem?_eq_getElem _)
  have hl : ∀ p ∈ ps, s.net.Leads p := fun p hp => by
    obtain ⟨i, hi, rfl⟩ := List.getElem_of_mem hp
    have hne : qs[i] ≠ ps[i] := fun e => hpq _ hp _ (List.getElem_mem _) e.symm
    have hf : s.net.followers ps[i] = [qs[i]] := by simp [Net.followers, (hpair i hi).1, hne]
    refine ⟨(hps _ hp).2, by simp [hf], fun q hq => ?_⟩
    obtain rfl : q = qs[i] := by simpa [hf] using hq
    exact hqs _ (List.getElem_mem _)
  have hcoh : ∀ p ∈ ps, s.net.Coherent p := fun p hp x hx => by
    obtain ⟨i, hi, rfl⟩ := List.getElem_of_mem hp
    obtain ⟨hn, hv⟩ := hpair i hi
    rw [hn] at hx
    rcases List.mem_pair.mp hx with rfl | rfl
    · rfl
    · exact hv
  have hdisj : ps.Pairwise (fun p q => ∀ x ∈ netOf s.net.links p, x ∉ netOf s.net.links q) := by
    refine List.pairwise_iff_getElem.mpr fun i j hi hj hij x hx hx' => ?_
    rw [(hpair i hi).1, List.mem_pair] at hx
    rw [(hpair j hj).1, List.mem_pair] at hx'
    have hp : ps[i] ≠ ps[j] := fun e => absurd (hndp.getElem_inj_iff.mp e) (by omega)
    have hq : qs[i] ≠ qs[j] := fun e => absurd (hndq.getElem_inj_iff.mp e) (by omega)
    have hpq (i j : Nat) (hi : i < ps.length) (hj : j < ps.length) : ps[i] ≠ qs[j] :=
      hpq _ (List.getElem_mem hi) _ (List.getElem_mem _)
    rcases hx with rfl | rfl <;> rcases hx' with h | h
    · exact hp h
    · exact hpq i j hi hj h
    · exact hpq j i hj hi h.symm
    · exact hq h
  obtain ⟨changed, m, hrun, hm, hbits, -⟩ := run_writeBus_coherent (s.wiring_live (order := order) hdep) hb hne hk hl hcoh
    hdisj value
  have hread {a : BusId} {rs : List PinId} {d : Direction} (ha : s.net.busPins a = some rs) (hrs : rs.length = ps.length)
      (hd : ∀ r ∈ rs, s.net.directionOf r = some d)
      (hmem : ∀ (i : Nat) (r : PinId), rs[i]? = some r → ∃ p, ps[i]? = some p ∧ r ∈ netOf s.net.links p) :
      (busValue a).run (s.withNet m) = .ok (value % 2 ^ ps.length) (s.withNet m) := by
    have hshared : m.sharedDirection rs = some d := Net.sharedDirection_eq (List.ne_nil_of_length_pos (by
      rw [hrs]; exact List.length_pos_iff.mpr hne)) fun r hr => (hm.direction r).trans (hd r hr)
    rw [run_busValue (ps := rs) (by simpa [Net.busPins_of_wires hm.wires] using ha) hshared]
    rw [State.withNet_net, Net.valueOf_eq fun i r hr => by
      obtain ⟨p, hp, hrp⟩ := hmem i r hr
      exact hbits i p r hp hrp, hrs, Nat.mod_mod]
  refine ⟨changed, s.withNet m, (run_busWrite hb (fun p hp => (hps p hp).1) hu).trans hrun,
    hread hc hlen.symm (fun r hr => (hqs r hr).1) fun i q hq => ?_,
    hread hb rfl (fun r hr => (hps r hr).2) fun i p hp => ⟨p, hp, mem_netOf_self _ _⟩⟩
  obtain ⟨hi, rfl⟩ := List.getElem?_eq_some_iff.mp hq
  exact ⟨ps[i], List.getElem?_eq_getElem (by omega), by rw [(hpair i (by omega)).1]; simp⟩

end Sys2Proof.Machine
end

section
/-! PROOFS. The step on the pins (R260, R261, R326): with the memory alone wired to the data pins, what each call of a cycle leaves
of the network, and the simulation of the transaction-level step. -/

namespace Sys2Proof.Machine

variable {n m : Net} {s t : State} {v : Level} {order : Nat → Nat} {w : Wiring} {c : CpuPins} {i j : Fin 8}

/-! ### The wiring of the memory -/

/-- The memory's pin for bit `i` of the data bus. -/
def Net.memoryPin (n : Net) (i : Fin 8) : PinId := n.memoryPins.getD i .rw

/-- The wiring stays through any change of levels and directions. -/
theorem State.OnlyMemoryWired.of_wires (h : s.OnlyMemoryWired) (hw : t.net.wires = s.net.wires) : t.OnlyMemoryWired where
  settled := (Net.unsettled_of_wires hw).trans h.settled
  eight := by rw [Net.memoryPins_of_wires hw]; exact h.eight
  distinct := by rw [Net.memoryPins_of_wires hw]; exact h.distinct
  owned p hp := by
    rw [Net.memoryPins_of_wires hw] at hp
    rw [Net.ownerOf_of_wires hw]
    exact h.owned p hp
  links := by rw [Net.memoryPins_of_wires hw, Net.links_of_wires hw]; exact h.links
  noBusSink := ⟨(Net.busSink_of_wires hw .cpuAddr).trans h.noBusSink.1, (Net.busSink_of_wires hw .cpuData).trans h.noBusSink.2⟩
  noDataSink i := by rw [Net.sinkOf_of_wires hw]; exact h.noDataSink i
  noMemorySink p hp := by
    rw [Net.memoryPins_of_wires hw] at hp
    rw [Net.sinkOf_of_wires hw]
    exact h.noMemorySink p hp

/-- The memory's pins, bit by bit. -/
theorem State.OnlyMemoryWired.memoryPins_eq (h : s.OnlyMemoryWired) :
    s.net.memoryPins = (List.finRange 8).map s.net.memoryPin := by
  refine List.ext_getElem (by simp [h.eight]) fun k hk hk' => ?_
  simp [Net.memoryPin, hk]

theorem State.OnlyMemoryWired.memoryPin_mem (h : s.OnlyMemoryWired) (i : Fin 8) : s.net.memoryPin i ∈ s.net.memoryPins := by
  rw [h.memoryPins_eq]
  exact List.mem_map.mpr ⟨i, List.mem_finRange i, rfl⟩

theorem State.OnlyMemoryWired.memoryPin_inj (h : s.OnlyMemoryWired) : s.net.memoryPin i = s.net.memoryPin j ↔ i = j := by
  refine ⟨fun e => ?_, fun e => e ▸ rfl⟩
  have hnd := h.distinct
  rw [h.memoryPins_eq] at hnd
  exact List.inj_on_of_nodup_map hnd (List.mem_finRange i) (List.mem_finRange j) e

/-- The memory's pins are not the CPU's. -/
theorem State.OnlyMemoryWired.exists_ext (h : s.OnlyMemoryWired) (i : Fin 8) : ∃ k, s.net.memoryPin i = .ext k := by
  have ho := h.owned _ (h.memoryPin_mem i)
  cases e : s.net.memoryPin i with
  | ext k => exact ⟨k, rfl⟩
  | _ => rw [e] at ho; cases ho

/-- Each link joins a data pin to the memory's pin of its bit. -/
theorem State.OnlyMemoryWired.mem_links (h : s.OnlyMemoryWired) {l : Link} :
    l ∈ s.net.links ↔ ∃ i, l = { p := .data i, q := s.net.memoryPin i, origin := .direct } := by
  rw [h.links, h.memoryPins_eq, dataLinks, List.zipWith_map, List.zipWith_self, List.mem_map]
  simp [eq_comm]

theorem State.OnlyMemoryWired.memoryPin_ne (h : s.OnlyMemoryWired) {p : PinId} (hp : ∀ k, p ≠ .ext k) : s.net.memoryPin i ≠ p := by
  obtain ⟨k, hk⟩ := h.exists_ext i
  exact fun e => hp k (e ▸ hk)

theorem State.OnlyMemoryWired.joins_or_avoids (h : s.OnlyMemoryWired) (i : Fin 8) {l : Link} (hl : l ∈ s.net.links) :
    l.joins (.data i) (s.net.memoryPin i) = true ∨
      l.p ∉ [.data i, s.net.memoryPin i] ∧ l.q ∉ [.data i, s.net.memoryPin i] := by
  obtain ⟨j, rfl⟩ := h.mem_links.mp hl
  by_cases hij : j = i
  · exact .inl (Link.joins_iff.mpr (.inl (by simp [hij])))
  · have hd : s.net.memoryPin j ≠ .data i := h.memoryPin_ne nofun
    have hd' : s.net.memoryPin i ≠ .data j := h.memoryPin_ne nofun
    exact .inr (by simp [hij, h.memoryPin_inj, hd, hd'.symm])

/-- The net of a data pin: itself and the memory's pin of its bit. -/
theorem State.OnlyMemoryWired.netOf_data (h : s.OnlyMemoryWired) (i : Fin 8) :
    netOf s.net.links (.data i) = [.data i, s.net.memoryPin i] :=
  netOf_eq_pair (h.memoryPin_ne (p := .data i) nofun).symm (fun _ hl => h.joins_or_avoids i hl)
    ⟨_, h.mem_links.mpr ⟨i, rfl⟩, Link.joins_iff.mpr (.inl ⟨rfl, rfl⟩)⟩

theorem State.OnlyMemoryWired.netOf_memoryPin (h : s.OnlyMemoryWired) (i : Fin 8) :
    netOf s.net.links (s.net.memoryPin i) = [s.net.memoryPin i, .data i] := by
  refine netOf_eq_pair (h.memoryPin_ne nofun) (fun l hl => ?_)
    ⟨_, h.mem_links.mpr ⟨i, rfl⟩, Link.joins_iff.mpr (.inr ⟨rfl, rfl⟩)⟩
  have := h.joins_or_avoids i hl
  simp only [Link.joins_iff, List.mem_pair] at this ⊢
  tauto

/-- A pin of the CPU's that is not a data pin is alone on its net. -/
theorem State.OnlyMemoryWired.netOf_alone (h : s.OnlyMemoryWired) {p : PinId} (hp : ∀ k, p ≠ .ext k) (hd : ∀ i, p ≠ .data i) :
    netOf s.net.links p = [p] := by
  refine netOf_eq_self fun l hl => ?_
  obtain ⟨i, rfl⟩ := h.mem_links.mp hl
  exact iff_of_false (hd i).symm (h.memoryPin_ne hp)

/-! ### The pins that lead -/

/-- A pin alone on its net leads it when it is OUTPUT. -/
theorem Net.Leads.of_alone {p : PinId} (hn : netOf n.links p = [p]) (ho : n.directionOf p = some .output) : n.Leads p := by
  have hf : n.followers p = [] := by simp [Net.followers, hn]
  exact ⟨ho, by simp [hf], by simp [hf]⟩

theorem Net.Coherent.of_alone {p : PinId} (hn : netOf n.links p = [p]) : n.Coherent p := by
  intro x hx
  rw [hn, List.mem_singleton] at hx
  rw [hx]

/-- So does one of two pins on a net when the other is INPUT and has no sink. -/
theorem Net.Leads.of_pair {p q : PinId} (hn : netOf n.links p = [p, q]) (ho : n.directionOf p = some .output)
    (hi : n.directionOf q = some .input) (hs : n.sinkOf q = none) : n.Leads p := by
  have hq : q ≠ p := fun e => by simp [e, ho] at hi
  have hf : n.followers p = [q] := by simp [Net.followers, hn, hq]
  exact ⟨ho, by simp [hf], by simp [hf, hi, hs]⟩

/-- The data pins lead while the memory listens. -/
theorem State.OnlyMemoryWired.leads_data (h : s.OnlyMemoryWired) (ho : s.net.cpu.dataDir = allPins .output)
    (hi : s.net.directionOf (s.net.memoryPin i) = some .input) : s.net.Leads (.data i) :=
  .of_pair (h.netOf_data i) (by simp [Net.directionOf, ho, allPins]) hi (h.noMemorySink _ (h.memoryPin_mem i))

/-- The memory's pins lead while the CPU listens. -/
theorem State.OnlyMemoryWired.leads_memoryPin (h : s.OnlyMemoryWired) (hi : s.net.cpu.dataDir = allPins .input)
    (ho : s.net.directionOf (s.net.memoryPin i) = some .output) : s.net.Leads (s.net.memoryPin i) :=
  .of_pair (h.netOf_memoryPin i) ho (by simp [Net.directionOf, hi, allPins]) (h.noDataSink i)

/-- The nets of the data pins are apart, and so are those of the memory's pins. -/
theorem State.OnlyMemoryWired.pairwise_data (h : s.OnlyMemoryWired) :
    ((List.finRange 8).map PinId.data).Pairwise (fun p q => ∀ x ∈ netOf s.net.links p, x ∉ netOf s.net.links q) := by
  refine List.pairwise_map.mpr ((List.nodup_finRange 8).imp fun {i j} hij x hx => ?_)
  have hd : s.net.memoryPin i ≠ .data j := h.memoryPin_ne nofun
  have hd' : s.net.memoryPin j ≠ .data i := h.memoryPin_ne nofun
  rw [h.netOf_data, List.mem_pair] at hx
  rcases hx with rfl | rfl <;> simp [h.netOf_data, h.memoryPin_inj, hij, hd, hd'.symm]

theorem State.OnlyMemoryWired.pairwise_memoryPin (h : s.OnlyMemoryWired) :
    ((List.finRange 8).map s.net.memoryPin).Pairwise (fun p q => ∀ x ∈ netOf s.net.links p, x ∉ netOf s.net.links q) := by
  refine List.pairwise_map.mpr ((List.pairwise_map.mp h.pairwise_data).imp fun {i j} hij x hx => ?_)
  simp only [h.netOf_data, h.netOf_memoryPin, List.mem_pair, or_comm] at hij hx ⊢
  exact hij x hx

/-! ### Networks that differ in the CPU's pins and the memory's -/

/-- The network `m` is `n` with the CPU's pins `c`, but for levels and directions of the memory's pins. -/
structure Net.OnBus (n : Net) (c : CpuPins) (m : Net) : Prop where
  wires : m.wires = n.wires
  notes : m.notes = n.notes
  choices : m.choices = n.choices
  cpu : m.cpu = c
  others : ∀ k, .ext k ∉ n.memoryPins → m.pins[k]? = n.pins[k]?

theorem Net.OnBus.withCpu (n : Net) (c : CpuPins) : n.OnBus c { n with cpu := c } := ⟨rfl, rfl, rfl, rfl, fun _ _ => rfl⟩

theorem Net.OnBus.trans {k : Net} {c' : CpuPins} (h : n.OnBus c m) (g : m.OnBus c' k) : n.OnBus c' k where
  wires := g.wires.trans h.wires
  notes := g.notes.trans h.notes
  choices := g.choices.trans h.choices
  cpu := g.cpu
  others j hj := (g.others j (by rwa [Net.memoryPins_of_wires h.wires])).trans (h.others j hj)

/-- A network of the same wiring is known by the levels and directions of its pins. -/
theorem Net.OnBus.of_pins (hw : m.wires = n.wires) (hn : m.notes = n.notes) (hk : m.choices = n.choices)
    (hl : ∀ x, x ∉ n.memoryPins → m.levelOf x = { n with cpu := c }.levelOf x)
    (hd : ∀ x, x ∉ n.memoryPins → m.directionOf x = { n with cpu := c }.directionOf x)
    (ho : ∀ p ∈ n.memoryPins, ∃ k, p = .ext k) : n.OnBus c m where
  wires := hw
  notes := hn
  choices := hk
  cpu := by
    have hnot {p : PinId} (hp : ∀ k, p ≠ .ext k) : p ∉ n.memoryPins := fun h => by
      obtain ⟨k, hk⟩ := ho p h
      exact hp k hk
    exact Net.cpu_ext (n := { n with cpu := c }) (fun p hp => hl p (hnot hp)) fun p hp => hd p (hnot hp)
  others k hk := Net.pin_eq_of_wires hw ((hl _ hk).trans rfl) ((hd _ hk).trans rfl)

/-- All of such a network. -/
theorem Net.OnBus.eq (h : n.OnBus c m) : m = { n with cpu := c, pins := m.pins } := by
  obtain ⟨hw, hn, hk, rfl, -⟩ := h
  obtain ⟨⟩ := m
  obtain ⟨⟩ := n
  simp_all [Net.wires]

/-! ### The CPU's calls -/

theorem run_modify_mapPins (f : CpuPins → CpuPins) :
    (modify (fun s => s.mapPins f) : NetM Unit).run s = .ok () (s.mapPins f) := rfl

/-- Setting RW, which nothing is wired to. -/
theorem run_setRw (hw : w.Live) (h : s.OnlyMemoryWired) (hd : s.net.cpu.rwDir = .output) (v : Level) :
    ∃ changed, (w.setLevel .rw v).run s =
      .ok changed (s.mapPins (fun c => { c with rw := v })) := by
  have hn := h.netOf_alone (p := .rw) nofun nofun
  obtain ⟨changed, m, hrun, -, hm, hl⟩ := run_setLevel_coherent (s := s) hw
    (.of_alone hn (by simp [Net.directionOf, hd])) (.of_alone hn) v
  have heq : m = { s.net with cpu := { s.net.cpu with rw := v } } := by
    refine Net.eq_of_wires hm.wires hm.notes hm.choices (fun x => ?_) fun x => (hm.direction x).trans (by cases x <;> rfl)
    rw [hl, hn]
    cases x <;> simp [Net.levelOf]
  exact ⟨changed, by rw [hrun, heq]; rfl⟩

/-- Writing the address bus, which nothing is wired to. -/
theorem run_writeAddr (hw : w.Live) (h : s.OnlyMemoryWired) (hd : s.net.cpu.addrDir = allPins .output) (addr : Word) :
    ∃ changed, (w.writeBus .cpuAddr addr.toNat).run s =
      .ok changed (s.mapPins (fun c => { c with addr := addr })) := by
  have hn (i : Fin 16) : netOf s.net.links (.addr i) = [.addr i] := h.netOf_alone nofun nofun
  have hdisj : ((List.finRange 16).map PinId.addr).Pairwise
      (fun p q => ∀ x ∈ netOf s.net.links p, x ∉ netOf s.net.links q) :=
    List.pairwise_map.mpr ((List.nodup_finRange 16).imp fun hij x hx => by
      rw [hn, List.mem_singleton] at hx
      simp [hn, hx, hij])
  obtain ⟨changed, m, hrun, hm, hbits, hold⟩ := run_writeBus_coherent (s := s)
    (b := .cpuAddr) hw rfl (by simp) h.noBusSink.1
    (fun p hp => by
      obtain ⟨i, -, rfl⟩ := List.mem_map.mp hp
      exact .of_alone (hn i) (by simp [Net.directionOf, hd, allPins]))
    (fun p hp => by
      obtain ⟨i, -, rfl⟩ := List.mem_map.mp hp
      exact .of_alone (hn i))
    hdisj addr.toNat
  have heq : m = { s.net with cpu := { s.net.cpu with addr := addr } } := by
    refine Net.eq_of_wires hm.wires hm.notes hm.choices (fun x => ?_) fun x => (hm.direction x).trans (by cases x <;> rfl)
    cases x with
    | addr i =>
      rw [hbits i (.addr i) (.addr i) (by simp) (mem_netOf_self _ _), List.length_map,
        List.length_finRange, Nat.mod_eq_of_lt addr.isLt]
      rfl
    | _ =>
      rw [hold _ fun p hp => by
        obtain ⟨i, -, rfl⟩ := List.mem_map.mp hp
        simp [hn]]
      rfl
  exact ⟨changed, by rw [hrun, heq]; rfl⟩

/-- Every pin of the memory holds its bit of a byte. -/
def Net.MemoryShows (n : Net) (v : Byte) : Prop := ∀ i : Fin 8, n.levelOf (n.memoryPin i) = Level.ofBool (v.getLsbD i)

/-- The levels of the data nets after all of them have taken the bits of a byte, and the network they leave. -/
theorem State.OnlyMemoryWired.onBus_data (h : s.OnlyMemoryWired) {v : Byte} (hm : s.net.Relevels m)
    (hbits : ∀ i : Fin 8, m.levelOf (.data i) = Level.ofBool (v.getLsbD i))
    (hold : ∀ x, x ∉ s.net.memoryPins → (∀ i, x ≠ .data i) → m.levelOf x = s.net.levelOf x) :
    s.net.OnBus { s.net.cpu with data := v } m := by
  refine .of_pins hm.wires hm.notes hm.choices (fun x hx => ?_) (fun x _ => (hm.direction x).trans (by cases x <;> rfl))
    fun p hp => ?_
  · cases x with
    | data i => exact hbits i
    | _ => exact (hold _ hx nofun).trans rfl
  · rw [h.memoryPins_eq] at hp
    obtain ⟨i, -, rfl⟩ := List.mem_map.mp hp
    exact h.exists_ext i

/-- Writing the data bus while the memory listens, its pins holding the levels of the data pins. -/
theorem run_writeData (hw : w.Live) (h : s.OnlyMemoryWired) (hd : s.net.cpu.dataDir = allPins .output)
    (hi : ∀ i, s.net.directionOf (s.net.memoryPin i) = some .input) (hc : s.net.MemoryShows s.net.cpu.data) (v : Byte) :
    ∃ changed m, (w.writeBus .cpuData v.toNat).run s = .ok changed (s.withNet m) ∧
      s.net.OnBus { s.net.cpu with data := v } m ∧ m.MemoryShows v := by
  obtain ⟨changed, m, hrun, hm, hbits, hold⟩ := run_writeBus_coherent (s := s)
    (b := .cpuData) hw rfl (by simp) h.noBusSink.2
    (fun p hp => by
      obtain ⟨i, -, rfl⟩ := List.mem_map.mp hp
      exact h.leads_data hd (hi i))
    (fun p hp => by
      obtain ⟨i, -, rfl⟩ := List.mem_map.mp hp
      intro x hx
      rw [h.netOf_data, List.mem_pair] at hx
      rcases hx with rfl | rfl
      · rfl
      · exact hc i)
    h.pairwise_data v.toNat
  have hbit (i : Fin 8) (x : PinId) (hx : x ∈ netOf s.net.links (.data i)) : m.levelOf x = Level.ofBool (v.getLsbD i) := by
    rw [hbits i (.data i) x (by simp) hx, List.length_map, List.length_finRange, Nat.mod_eq_of_lt v.isLt]
    rfl
  refine ⟨changed, m, hrun, h.onBus_data hm (fun i => hbit i _ (mem_netOf_self _ _)) fun x hx hxd => ?_, fun i => ?_⟩
  · refine hold x fun p hp => ?_
    obtain ⟨i, -, rfl⟩ := List.mem_map.mp hp
    have : x ≠ s.net.memoryPin i := fun e => hx (e ▸ h.memoryPin_mem i)
    simp [h.netOf_data, hxd i, this]
  · have hmp : m.memoryPin i = s.net.memoryPin i := by rw [Net.memoryPin, Net.memoryPins_of_wires hm.wires, Net.memoryPin]
    rw [hmp]
    exact hbit i _ (by simp [h.netOf_data])

theorem Net.OnBus.memoryPin (h : n.OnBus c m) (i : Fin 8) : m.memoryPin i = n.memoryPin i := by
  rw [Net.memoryPin, Net.memoryPins_of_wires h.wires, Net.memoryPin]

theorem State.OnlyMemoryWired.onBus (h : s.OnlyMemoryWired) (hm : s.net.OnBus c m) : (s.withNet m).OnlyMemoryWired :=
  h.of_wires hm.wires

/-! ### The memory's calls -/

@[simp] theorem Net.notes_putDirection (n : Net) (p : PinId) (d : Direction) : (n.putDirection p d).notes = n.notes := by
  cases p <;> rfl

@[simp] theorem Net.choices_putDirection (n : Net) (p : PinId) (d : Direction) :
    (n.putDirection p d).choices = n.choices := by
  cases p <;> rfl

/-- An owned pin exists. -/
theorem Net.directionOf_ne_none {p : PinId} {who : Owner} (h : n.ownerOf p = some who) : n.directionOf p ≠ none := by
  cases p with
  | ext k =>
    obtain ⟨a, ha, -⟩ := Option.map_eq_some_iff.mp h
    simp [Net.directionOf, ha]
  | _ => exact nofun

/-- Turning pins that a component owns (R221). -/
theorem run_setDirections {ps : List PinId} {who : Owner} {d : Direction} (ho : ∀ p ∈ ps, s.net.ownerOf p = some who)
    (ha : ∀ p ∈ ps, p.allows d = true) :
    ∃ m, (setDirections who d ps).run s = .ok () (s.withNet m) ∧ m.wires = s.net.wires ∧ m.notes = s.net.notes ∧
      m.choices = s.net.choices ∧ (∀ x, m.levelOf x = s.net.levelOf x) ∧
      ∀ x, m.directionOf x = if x ∈ ps then some d else s.net.directionOf x := by
  induction ps generalizing s with
  | nil => exact ⟨s.net, rfl, rfl, rfl, rfl, fun _ => rfl, fun _ => by simp⟩
  | cons p rest ih =>
    have hop := ho p (by simp)
    obtain ⟨m, hrun, hw, hn, hk, hl, hd⟩ := ih (s := s.withNet (s.net.putDirection p d))
      (fun q hq => (Net.ownerOf_of_wires (s.net.wires_putDirection p d) q).trans (ho q (by simp [hq])))
      (fun q hq => ha q (by simp [hq]))
    have hset : (setDirection who p d).run s = .ok () (s.withNet (s.net.putDirection p d)) := by
      rw [setDirection, run_bind_ok (run_checkOwner hop), if_pos (ha p (by simp))]
      rfl
    refine ⟨m, ?_, by simp [hw], by simp [hn], by simp [hk], fun x => by simp [hl], fun x => ?_⟩
    · rw [setDirections, run_bind_ok hset, hrun, State.withNet_withNet]
    · rw [hd, State.withNet_net, Net.directionOf_putDirection _ _ _ _ (Net.directionOf_ne_none hop) (ha p (by simp))]
      by_cases hx : x = p <;> by_cases hr : x ∈ rest <;> simp [hx, hr]

/-- The memory turns its pins. -/
theorem run_turnMemory (h : s.OnlyMemoryWired) (d : Direction) :
    ∃ m, (setDirections .memory d s.net.memoryPins).run s = .ok () (s.withNet m) ∧ s.net.OnBus s.net.cpu m ∧
      (∀ i, m.directionOf (m.memoryPin i) = some d) ∧ ∀ x, m.levelOf x = s.net.levelOf x := by
  have hext : ∀ p ∈ s.net.memoryPins, ∃ k, p = .ext k := fun p hp => by
    rw [h.memoryPins_eq] at hp
    obtain ⟨i, -, rfl⟩ := List.mem_map.mp hp
    exact h.exists_ext i
  obtain ⟨m, hrun, hw, hn, hk, hl, hd⟩ := run_setDirections (d := d) h.owned fun p hp => by
    obtain ⟨k, rfl⟩ := hext p hp
    rfl
  have hbus : s.net.OnBus s.net.cpu m :=
    .of_pins hw hn hk (fun x _ => (hl x).trans rfl) (fun x hx => by rw [hd, if_neg hx]) hext
  refine ⟨m, hrun, hbus, fun i => ?_, hl⟩
  rw [hbus.memoryPin, hd, if_pos (h.memoryPin_mem i)]

theorem run_releaseMemory (h : s.OnlyMemoryWired) :
    ∃ m, releaseMemory.run s = .ok () (s.withNet m) ∧ s.net.OnBus s.net.cpu m ∧
      (∀ i, m.directionOf (m.memoryPin i) = some .input) ∧ ∀ x, m.levelOf x = s.net.levelOf x := by
  obtain ⟨m, hrun, hm⟩ := run_turnMemory h .input
  exact ⟨m, by rw [← hrun]; rfl, hm⟩

/-- The opposite level is another one. -/
theorem Level.ofBool_not_ne (v : Level) : Level.ofBool (!v.toBool) ≠ v := by cases v <;> decide

/-- A pin of the memory that leads its net is made to carry a level to it, whatever the levels before. -/
theorem run_redrive {p : PinId} (hw : w.Live) (ho : s.net.ownerOf p = some .memory) (hl : s.net.Leads p) (v : Level) :
    ∃ m, (redrive w p v).run s = .ok () (s.withNet m) ∧ s.net.Relevels m ∧
      ∀ x, m.levelOf x = if x ∈ netOf s.net.links p then v else s.net.levelOf x := by
  rw [redrive, run_bind_ok (run_checkOwner ho)]
  by_cases hv : s.net.levelOf p = v
  · obtain ⟨m1, hrun1, hm1, hl1⟩ := run_setLevel_leads (v := Level.ofBool (!v.toBool)) hw hl
      (hv ▸ (Level.ofBool_not_ne v).symm)
    obtain ⟨m2, hrun2, hm2, hl2⟩ := run_setLevel_leads (s := s.withNet m1) (v := v) hw (hl.of_relevels hm1)
      (by rw [State.withNet_net, hl1, if_pos (mem_netOf_self _ _)]; exact Level.ofBool_not_ne v)
    refine ⟨m2, ?_, hm1.trans hm2, fun x => ?_⟩
    · simp only [EStateM.run_bind, EStateM.run_get, hv, if_true, hrun1, hrun2]
      rfl
    · rw [hl2, State.withNet_net, Net.links_of_wires hm1.wires]
      split
      next => rfl
      next hx => rw [hl1, if_neg hx]
  · obtain ⟨m, hrun, hm⟩ := run_setLevel_leads hw hl hv
    refine ⟨m, ?_, hm⟩
    simp only [EStateM.run_bind, EStateM.run_get, hv, if_false, hrun]
    rfl

/-- The memory's drive of one pin, as a setter that answers whether the pin held another level. -/
def redriveBit (w : Wiring) (p : PinId) (v : Level) : NetM Bool := do
  let s ← get
  redrive w p v
  pure (decide (s.net.levelOf p ≠ v))

/-- The memory drives a byte as a bus write does its bits. -/
theorem driveByte_eq (w : Wiring) (value : Nat) (ps : List PinId) :
    driveByte w value ps = (writeBits (redriveBit w) value ps >>= fun _ => pure ()) := by
  induction ps generalizing value with
  | nil => rfl
  | cons p rest ih =>
    refine EStateM.ext fun s => ?_
    simp only [driveByte, writeBits, redriveBit, ih, EStateM.run_bind, EStateM.run_get]
    cases (redrive w p (Level.ofBool (value.testBit 0))).run s with
    | error e t => rfl
    | ok _ t =>
      simp only [EStateM.run_pure]
      cases (writeBits (redriveBit w) (value / 2) rest).run t <;> rfl

/-- The memory drives a byte while the CPU listens. -/
theorem run_driveByte (hw : w.Live) (h : s.OnlyMemoryWired) (hd : s.net.cpu.dataDir = allPins .input)
    (ho : ∀ i, s.net.directionOf (s.net.memoryPin i) = some .output) (v : Byte) :
    ∃ m, (driveByte w v.toNat s.net.memoryPins).run s = .ok () (s.withNet m) ∧
      s.net.OnBus { s.net.cpu with data := v } m ∧ m.MemoryShows v ∧ ∀ x, m.directionOf x = s.net.directionOf x := by
  have hset : ∀ p ∈ s.net.memoryPins, ∀ (v : Level) (t : State), s.net.Relevels t.net →
      ∃ changed m, (redriveBit w p v).run t = .ok changed (t.withNet m) ∧
        (changed = true ↔ t.net.levelOf p ≠ v) ∧ s.net.Relevels m ∧
        ∀ x, True → m.levelOf x = if x ∈ netOf s.net.links p then v else t.net.levelOf x := by
    intro p hp v t ht
    have howner := h.owned p hp
    rw [h.memoryPins_eq] at hp
    obtain ⟨i, -, rfl⟩ := List.mem_map.mp hp
    obtain ⟨m, hrun, hm, hl⟩ := run_redrive (s := t) hw
      ((Net.ownerOf_of_wires ht.wires _).trans howner) ((h.leads_memoryPin hd (ho i)).of_relevels ht) v
    rw [Net.links_of_wires ht.wires] at hl
    refine ⟨decide (t.net.levelOf (s.net.memoryPin i) ≠ v), m, ?_, by simp, ht.trans hm, fun x _ => hl x⟩
    simp only [redriveBit, EStateM.run_bind, EStateM.run_get, hrun]
    rfl
  obtain ⟨changed, m, hrun, -, hm, hbits, hold⟩ := run_writeBits (I := s.net.Relevels) (D := fun _ => True) hset
    (fun p _ => ⟨trivial, mem_netOf_self _ _⟩)
    (by rw [h.memoryPins_eq]; exact h.pairwise_memoryPin.imp fun hx x _ => hx x) v.toNat (.refl _)
  have hbit (i : Fin 8) (x : PinId) (hx : x ∈ netOf s.net.links (s.net.memoryPin i)) :
      m.levelOf x = Level.ofBool (v.getLsbD i) :=
    hbits i (s.net.memoryPin i) x (by rw [h.memoryPins_eq]; simp) trivial hx
  have hbus : s.net.OnBus { s.net.cpu with data := v } m :=
    h.onBus_data hm (fun i => hbit i _ (by simp [h.netOf_memoryPin])) fun x hx hxd => hold x trivial fun p hp => by
      have hne : x ≠ p := fun e => hx (e ▸ hp)
      rw [h.memoryPins_eq] at hp
      obtain ⟨i, -, rfl⟩ := List.mem_map.mp hp
      simp [h.netOf_memoryPin, hne, hxd i]
  refine ⟨m, ?_, hbus, fun i => ?_, hm.direction⟩
  · rw [driveByte_eq, run_bind_ok hrun]
    rfl
  · rw [hbus.memoryPin]
    exact hbit i _ (mem_netOf_self _ _)

/-- The memory's answer to an address it stands at. -/
theorem run_memoryDrives {addr : Word} (hw : w.Live) (h : s.OnlyMemoryWired) (hd : s.net.cpu.dataDir = allPins .input)
    (hr : s.regionAt addr ≠ .external) :
    ∃ m, (memoryDrives w addr).run s = .ok () (s.withNet m) ∧
      s.net.OnBus { s.net.cpu with data := s.mem.read addr.toNat } m ∧ m.MemoryShows (s.mem.read addr.toNat) := by
  obtain ⟨m1, hrun1, hm1, hd1, -⟩ := run_turnMemory h .output
  obtain ⟨m2, hrun2, hm2, hs2, -⟩ := run_driveByte (s := s.withNet m1) hw
    (h.onBus hm1) (by rw [State.withNet_net, hm1.cpu, hd]) hd1 (s.mem.read addr.toNat)
  rw [State.withNet_net, Net.memoryPins_of_wires hm1.wires] at hrun2
  rw [State.withNet_net, hm1.cpu] at hm2
  refine ⟨m2, ?_, hm1.trans hm2, hs2⟩
  simp only [memoryDrives, EStateM.run_bind, EStateM.run_get]
  cases e : s.regionAt addr with
  | external => exact absurd e hr
  | ram | rom =>
    simp only [hrun1]
    exact hrun2

/-! ### The cycles -/

/-- The read part of a cycle: the address stands on its bus, and the memory's byte on the data bus. -/
theorem run_pinAddress {addr : Word} (hw : w.Live) (h : s.OnlyMemoryWired) (hr : s.regionAt addr ≠ .external) :
    ∃ m, (pinAddress w addr).run s = .ok () (s.withNet m) ∧
      s.net.OnBus { s.net.cpu.listening with rw := .high, addr := addr, data := s.mem.read addr.toNat } m ∧
      m.MemoryShows (s.mem.read addr.toNat) := by
  let s1 := s.mapPins CpuPins.listening
  let s2 := s1.mapPins (fun c => { c with rw := .high })
  let s3 := s2.mapPins (fun c => { c with addr := addr })
  have h1 : s1.OnlyMemoryWired := h.of_wires rfl
  have h2 : s2.OnlyMemoryWired := h.of_wires rfl
  obtain ⟨c1, hrw⟩ := run_setRw (s := s1) hw h1 rfl .high
  obtain ⟨c2, haddr⟩ := run_writeAddr (s := s2) hw h2 rfl addr
  obtain ⟨m, hrun, hm, hs⟩ := run_memoryDrives (s := s3) (addr := addr) hw
    (h.of_wires rfl) rfl hr
  refine ⟨m, ?_, (Net.OnBus.withCpu s.net _).trans hm, hs⟩
  rw [pinAddress, run_bind_ok (run_modify_mapPins _), run_bind_ok hrw, run_bind_ok haddr]
  exact hrun

/-- A cycle with AEC low. -/
theorem run_pinRelease (h : s.OnlyMemoryWired) :
    ∃ m, pinRelease.run s = .ok () (s.withNet m) ∧ s.net.OnBus s.net.cpu.released m := by
  obtain ⟨m, hrun, hm, -⟩ := run_releaseMemory (s := s.mapPins CpuPins.released) (h.of_wires rfl)
  refine ⟨m, ?_, (Net.OnBus.withCpu s.net _).trans hm⟩
  rw [pinRelease, run_bind_ok (run_modify_mapPins _), hrun]
  rfl

theorem State.aec_of_aecLow {b : Bool} (h : s.aecLow = b) : s.net.cpu.aec = if b then .low else .high := by
  subst h
  cases e : s.net.cpu.aec <;> simp [State.aecLow, e]

/-- With AEC low every cycle releases the CPU's pins; with AEC high each sets them one after another (R261, R312). -/
theorem CpuPins.afterIdle_low (h : c.aec = .low) : c.afterIdle = c.released := by rw [CpuPins.afterIdle, h]

theorem CpuPins.afterRead_low {addr : Word} {v : Byte} (h : c.aec = .low) : c.afterRead addr v = c.released := by
  rw [CpuPins.afterRead, h]

theorem CpuPins.afterWrite_low {addr : Word} {v : Byte} (h : c.aec = .low) : c.afterWrite addr v = c.released := by
  rw [CpuPins.afterWrite, h]

theorem CpuPins.afterIdle_high (h : c.aec = .high) : c.afterIdle = { c.listening with rw := .high } := by
  simp [CpuPins.afterIdle, CpuPins.listening, h]

theorem CpuPins.afterRead_high {addr : Word} {v : Byte} (h : c.aec = .high) :
    c.afterRead addr v = { c.listening with rw := .high, addr := addr, data := v } := by
  simp [CpuPins.afterRead, CpuPins.listening, h]

theorem CpuPins.afterWrite_high {addr : Word} {v : Byte} (h : c.aec = .high) :
    c.afterWrite addr v = { c.listening.writing with rw := .low, addr := addr, data := v } := by
  simp [CpuPins.afterWrite, CpuPins.listening, CpuPins.writing, h]

/-- An idle step on the pins. -/
theorem run_pinIdle (hw : w.Live) (h : s.OnlyMemoryWired) :
    ∃ m, (pinIdle w).run s = .ok () (s.withNet m) ∧ s.net.OnBus s.net.cpu.afterIdle m := by
  simp only [pinIdle, EStateM.run_bind, EStateM.run_get]
  cases ha : s.aecLow with
  | true =>
    obtain ⟨m, hrun, hm⟩ := run_pinRelease h
    exact ⟨m, hrun, by rwa [CpuPins.afterIdle_low (State.aec_of_aecLow ha)]⟩
  | false =>
    obtain ⟨c, hrw⟩ := run_setRw (s := s.mapPins CpuPins.listening) hw
      (h.of_wires rfl) rfl .high
    rw [CpuPins.afterIdle_high (State.aec_of_aecLow ha)]
    refine ⟨_, ?_, Net.OnBus.withCpu _ _⟩
    simp only [Bool.false_eq_true, if_false, EStateM.run_bind, EStateM.run_set, hrw]
    rfl

/-- Eight pins that hold the bits of a byte form it. -/
theorem Net.valueOf_byte {f : Fin 8 → PinId} {v : Byte} (h : ∀ i, n.levelOf (f i) = Level.ofBool (v.getLsbD i)) :
    BitVec.ofNat 8 (n.valueOf ((List.finRange 8).map f)) = v := by
  have hbits (i : Nat) (p : PinId) (hp : ((List.finRange 8).map f)[i]? = some p) :
      n.levelOf p = Level.ofBool (v.toNat.testBit i) := by
    rw [List.getElem?_map, Option.map_eq_some_iff] at hp
    obtain ⟨j, hj, rfl⟩ := hp
    obtain ⟨hi, rfl⟩ := List.getElem?_eq_some_iff.mp hj
    rw [h, List.getElem_finRange]
    rfl
  rw [Net.valueOf_eq hbits, List.length_map, List.length_finRange, Nat.mod_eq_of_lt v.isLt, BitVec.ofNat_toNat,
    BitVec.setWidth_eq]

/-- The value of the data bus is the byte the CPU's data pins hold. -/
theorem run_sampleData (hd : s.net.cpu.dataDir = allPins .input) :
    ∃ v, (busValue .cpuData).run s = .ok v s ∧ BitVec.ofNat 8 v = s.net.cpu.data := by
  have hp : s.net.busPins .cpuData = some ((List.finRange 8).map PinId.data) := rfl
  refine ⟨_, run_busValue hp (d := .input) (Net.sharedDirection_eq (by simp) fun p hp => ?_), Net.valueOf_byte fun i => rfl⟩
  obtain ⟨i, -, rfl⟩ := List.mem_map.mp hp
  simp [Net.directionOf, hd, allPins]

/-- A read cycle on the pins returns the byte of the transaction, and leaves the CPU's pins as it does. -/
theorem run_pinRead {addr : Word} (hw : w.Live) (h : s.OnlyMemoryWired) (hr : s.regionAt addr ≠ .external) :
    ∃ m, (pinRead w addr).run s = .ok (s.busRead addr) (s.withNet m) ∧
      s.net.OnBus (s.net.cpu.afterRead addr (s.busRead addr)) m := by
  simp only [pinRead, EStateM.run_bind, EStateM.run_get]
  cases ha : s.aecLow with
  | true =>
    obtain ⟨m, hrun, hm⟩ := run_pinRelease h
    refine ⟨m, ?_, by rwa [CpuPins.afterRead_low (State.aec_of_aecLow ha)]⟩
    simp only [if_true, EStateM.run_bind, hrun, EStateM.run_pure, State.busRead, ha]
  | false =>
    have hread : s.busRead addr = s.mem.read addr.toNat := by
      rw [State.busRead, if_neg (by simp [ha])]
      cases e : s.regionAt addr with
      | external => exact absurd e hr
      | ram | rom => rfl
    obtain ⟨m, hrun, hm, -⟩ := run_pinAddress hw h hr
    obtain ⟨v, hv, hdata⟩ := run_sampleData (s := s.withNet m) (by rw [State.withNet_net, hm.cpu]; rfl)
    rw [State.withNet_net, hm.cpu] at hdata
    refine ⟨m, ?_, by rwa [hread, CpuPins.afterRead_high (State.aec_of_aecLow ha)]⟩
    simp only [Bool.false_eq_true, if_false, EStateM.run_bind, hrun, hv, EStateM.run_pure, hdata, hread]

/-- The CPU's pins do not matter to the memory's. -/
theorem State.OnlyMemoryWired.memoryPin_withCpu (h : s.OnlyMemoryWired) (c : CpuPins) (i : Fin 8) :
    { s.net with cpu := c }.levelOf (s.net.memoryPin i) = s.net.levelOf (s.net.memoryPin i) ∧
      { s.net with cpu := c }.directionOf (s.net.memoryPin i) = s.net.directionOf (s.net.memoryPin i) := by
  obtain ⟨k, hk⟩ := h.exists_ext i
  rw [hk]
  exact ⟨rfl, rfl⟩

/-- The last part of a write cycle, the address standing: RW is LOW, the memory listens, and the CPU drives the byte;
`next` is what follows. -/
theorem run_pinStore {b : Byte} (hw : w.Live) (h : s.OnlyMemoryWired) (hd : s.net.cpu.rwDir = .output)
    (hs : s.net.MemoryShows s.net.cpu.data) :
    ∃ m, (∀ next : NetM Unit, (do
        let _ ← w.setLevel .rw .low
        releaseMemory
        modify (fun s => s.mapPins CpuPins.writing)
        let _ ← w.writeBus .cpuData b.toNat
        next : NetM Unit).run s = next.run (s.withNet m)) ∧
      s.net.OnBus { s.net.cpu.writing with rw := .low, data := b } m ∧ m.MemoryShows b := by
  let s1 := s.mapPins (fun c => { c with rw := .low })
  have h1 : s1.OnlyMemoryWired := h.of_wires rfl
  obtain ⟨c1, hrun1⟩ := run_setRw hw h hd .low
  obtain ⟨m2, hrun2, hm2, hi2, hl2⟩ := run_releaseMemory h1
  have h2 := h1.onBus hm2
  let s3 := (s1.withNet m2).mapPins CpuPins.writing
  have h3 : s3.OnlyMemoryWired := h2.of_wires rfl
  have hlevel (i : Fin 8) : s3.net.levelOf (s3.net.memoryPin i) = s.net.levelOf (s.net.memoryPin i) :=
    (h2.memoryPin_withCpu _ i).1.trans ((hl2 _).trans (by rw [State.withNet_net, hm2.memoryPin]; exact (h.memoryPin_withCpu _ i).1))
  have hdata : s3.net.cpu.data = s.net.cpu.data := by
    show m2.cpu.data = _
    rw [hm2.cpu]
    rfl
  obtain ⟨c4, m4, hrun4, hm4, hs4⟩ := run_writeData (s := s3) hw h3 rfl
    (fun i => (h2.memoryPin_withCpu _ i).2.trans (hi2 i)) (fun i => by rw [hlevel, hdata]; exact hs i) b
  refine ⟨m4, fun next => ?_, ?_, hs4⟩
  · rw [run_bind_ok hrun1, run_bind_ok hrun2, run_bind_ok (run_modify_mapPins _), run_bind_ok hrun4]
    rfl
  · have hcpu : s3.net.cpu = { s.net.cpu.writing with rw := .low } := by
      show m2.cpu.writing = _
      rw [hm2.cpu]
      rfl
    rw [hcpu] at hm4
    exact (((Net.OnBus.withCpu s.net _).trans hm2).trans (Net.OnBus.withCpu m2 m2.cpu.writing)).trans hm4

/-- The memory stores the byte its pins hold where it is RAM. -/
theorem run_memoryStores {addr : Word} {v : Byte} (h : s.OnlyMemoryWired) (hs : s.net.MemoryShows v) (ha : s.aecLow = false) :
    (memoryStores addr).run s = .ok () { s with mem := s.stored addr v } := by
  have hvalue : BitVec.ofNat 8 (s.net.valueOf s.net.memoryPins) = v := by
    rw [h.memoryPins_eq]
    exact Net.valueOf_byte hs
  obtain ⟨p, rest, hp⟩ : ∃ p rest, s.net.memoryPins = p :: rest :=
    List.exists_cons_of_length_pos (by rw [h.eight]; decide)
  rw [hp] at hvalue
  simp only [memoryStores, EStateM.run_bind, EStateM.run_get, State.stored, ha, hp]
  cases s.regionAt addr with
  | ram => rw [← hvalue]; rfl
  | rom | external => rfl

/-- A write cycle on the pins stores the byte of the transaction, and leaves the CPU's pins as it does. -/
theorem run_pinWrite {addr : Word} {v : Byte} (hw : w.Live) (h : s.OnlyMemoryWired) (hr : s.regionAt addr ≠ .external) :
    ∃ m, (pinWrite w addr v).run s = .ok () { s with mem := s.stored addr v, net := m } ∧
      s.net.OnBus (s.net.cpu.afterWrite addr v) m := by
  simp only [pinWrite, EStateM.run_bind, EStateM.run_get]
  cases ha : s.aecLow with
  | true =>
    obtain ⟨m, hrun, hm⟩ := run_pinRelease h
    refine ⟨m, ?_, by rwa [CpuPins.afterWrite_low (State.aec_of_aecLow ha)]⟩
    simp only [if_true, hrun, State.stored, ha]
    rfl
  | false =>
    obtain ⟨m1, hrun1, hm1, hs1⟩ := run_pinAddress hw h hr
    obtain ⟨m2, hrun2, hm2, hs2⟩ := run_pinStore (s := s.withNet m1) (b := v) hw
      (h.onBus hm1) (by rw [State.withNet_net, hm1.cpu]; rfl) (by rw [State.withNet_net, hm1.cpu]; exact hs1)
    rw [State.withNet_net, hm1.cpu] at hm2
    have hm := hm1.trans hm2
    have ha2 : (s.withNet m2).aecLow = s.aecLow := by
      rw [State.aecLow, State.withNet_net, hm.cpu]
      rfl
    have hstores := run_memoryStores (addr := addr) (h.onBus hm) hs2 (ha2.trans ha)
    refine ⟨m2, ?_, by rwa [CpuPins.afterWrite_high (State.aec_of_aecLow ha)]⟩
    have hsame : (s.withNet m2).stored addr v = s.stored addr v := by rw [State.stored, State.stored, ha2]; rfl
    simp only [Bool.false_eq_true, if_false]
    rw [run_bind_ok hrun1, hrun2, State.withNet_withNet, hstores, hsame]
    rfl

/-! ### The step -/

/-- The bookkeeping of a cycle on the pins is that of the transaction, but for the pins of components. -/
theorem Net.OnBus.countPinCycle {addr : Word} {rw : Rw} {v : Byte} {mem : Memory} (h : s.net.OnBus c m) :
    ({ s with mem := mem, net := m } : State).countPinCycle s addr rw v =
      ({ s with mem := mem }.countCycle addr rw v c).withPins m.pins := by
  obtain ⟨ps, rfl⟩ : ∃ ps, m = { s.net with cpu := c, pins := ps } := ⟨_, h.eq⟩
  rfl

/-- So is what an idle step leaves. -/
theorem Net.OnBus.idleCycle (h : s.net.OnBus s.net.cpu.afterIdle m) : s.withNet m = s.idleCycle.withPins m.pins := by
  obtain ⟨ps, rfl⟩ : ∃ ps, m = { s.net with cpu := s.net.cpu.afterIdle, pins := ps } := ⟨_, h.eq⟩
  rfl

/-- The cycle of a sequence, or its stall. -/
theorem run_pinCycle (hw : w.Live) (h : s.OnlyMemoryWired) (hr : ∀ addr : Word, s.regionAt addr ≠ .external)
    (e : t.prelude = .run s) :
    ∃ m, (pinStepWith w).run t = .ok () (s.microCycle.withPins m.pins) ∧
      s.net.OnBus s.microCycle.net.cpu m := by
  have hblind := s.currentRow_blind
  simp only [pinStepWith, EStateM.run_bind, EStateM.run_get, e, EStateM.run_set, State.microCycle]
  cases hrow : s.currentRow with
  | read addr after =>
    rw [hrow] at hblind
    dsimp only
    split
    · obtain ⟨m, hrun, hm⟩ := run_pinIdle
        (s := { s with micro := { s.micro with disturbed := s.micro.disturbed || decide (s.micro.stage ≠ Stage.opcode) } })
        hw (h.of_wires rfl)
      refine ⟨m, ?_, hm⟩
      rw [EStateM.run_bind, EStateM.run_set]
      exact hrun.trans (congrArg _ hm.idleCycle)
    · obtain ⟨m, hrun, hm⟩ := run_pinRead hw h (hr addr)
      refine ⟨m, ?_, by rw [(hblind _).net]; exact hm⟩
      rw [run_bind_ok hrun, EStateM.run_modify, ← (hblind _).comm]
      exact congrArg (fun u => EStateM.Result.ok () (after _ u)) hm.countPinCycle
  | write addr v after =>
    rw [hrow] at hblind
    obtain ⟨m, hrun, hm⟩ := run_pinWrite (v := v) hw h (hr addr)
    refine ⟨m, ?_, by rw [hblind.net]; exact hm⟩
    dsimp only
    rw [run_bind_ok hrun, EStateM.run_modify, ← hblind.comm]
    exact congrArg (fun u => EStateM.Result.ok () (after u)) hm.countPinCycle

/-- A step on the pins is the transaction-level one, but for the pins of components. -/
theorem run_pinStepWith (hw : w.Live) (h : s.OnlyMemoryWired) (hr : ∀ addr : Word, s.regionAt addr ≠ .external) :
    ∃ m, (pinStepWith w).run s = .ok () ((microStep s).withPins m.pins) ∧
      s.net.OnBus (microStep s).net.cpu m := by
  cases e : s.prelude with
  | idle t =>
    have ht : t.net = s.net := by obtain ⟨_, _, _, _, _, rfl⟩ := State.prelude_frame (.inl e); rfl
    obtain ⟨m, hrun, hm⟩ := run_pinIdle (s := t) hw (h.of_wires (by rw [ht]))
    refine ⟨m, ?_, ?_⟩
    · simp only [pinStepWith, EStateM.run_bind, EStateM.run_get, e, EStateM.run_set, microStep]
      rw [hrun, hm.idleCycle]
    · rw [← ht]
      simp only [microStep, e]
      exact hm
  | run t =>
    have hstep : microStep s = t.microCycle := by simp only [microStep, e]
    obtain ⟨_, _, _, _, _, rfl⟩ := State.prelude_frame (.inr e)
    rw [hstep]
    exact run_pinCycle hw (h.of_wires rfl) hr e

/-- Settles O56: each call of a cycle on the pins keeps the network but for the CPU's pins, which end as the transaction settles
them, and the memory's; the operation at the cycle's end does not see the difference. -/
theorem pinLevelStepIsTheMicroStep : Obligations.PinLevelStepIsTheMicroStep := by
  intro order s h hr hb
  obtain ⟨m, hrun, hm⟩ := run_pinStepWith (s.wiring_live (order := order) hb) h hr
  have hnet : ((microStep s).withPins m.pins).net = m :=
    (congrArg (fun n : Net => { n with pins := m.pins }) (microStep_net s)).trans hm.eq.symm
  have hident (k : Nat) : (m.pins[k]?).map (fun q : Pin => (q.name, q.owner, q.sink)) =
      (s.net.pins[k]?).map (fun q : Pin => (q.name, q.owner, q.sink)) := by
    have hk := congrArg (fun j : Net => (j.pins[k]?).map (fun q : Pin => (q.name, q.owner, q.sink))) hm.wires
    simpa [Net.wires_pins_getElem?, Function.comp_def] using hk
  exact ⟨_, (run_withWiring h.settled).trans hrun, h.of_wires (by rw [hnet, hm.wires]), rfl,
    (show m.pins.length = _ from Net.length_pins_of_wires hm.wires), hm.others, hident⟩

end Sys2Proof.Machine
end

section
/-! PROOFS. Links (R211, R212) and connectors (R231 to R234): what each call does to the list of links, and what it leaves. -/

namespace Sys2Proof.Machine

variable {n m : Net} {s : State} {p q : PinId} {l k : Link} {links : List Link} {o : LinkOrigin} {ps qs : List PinId}
  {c d : Nat} {cc dd : Connector}

/-! ### Direct links -/

theorem run_checkPin (h : s.net.directionOf p ≠ none) : (checkPin p).run s = .ok () s := by
  obtain ⟨d, hd⟩ := Option.ne_none_iff_exists'.mp h
  simp [checkPin, hd]

/-- The state with other links. -/
def State.withLinks (s : State) (links : List Link) : State := s.withNet { s.net with links := links }

@[simp] theorem State.withLinks_links (s : State) (links : List Link) : (s.withLinks links).net.links = links := rfl

@[simp] theorem State.levelOf_withLinks (s : State) (links : List Link) (x : PinId) :
    (s.withLinks links).net.levelOf x = s.net.levelOf x := Net.levelOf_congr rfl rfl x

@[simp] theorem State.directionOf_withLinks (s : State) (links : List Link) (x : PinId) :
    (s.withLinks links).net.directionOf x = s.net.directionOf x := Net.directionOf_congr rfl rfl x

theorem run_connect (hp : s.net.directionOf p ≠ none) (hq : s.net.directionOf q ≠ none) :
    (connect p q).run s = .ok () (s.withLinks (connectLinks s.net.links p q)) := by
  rw [connect, run_bind_ok (run_checkPin hp), run_bind_ok (run_checkPin hq)]
  rfl

theorem run_disconnect (hp : s.net.directionOf p ≠ none) :
    (disconnect p).run s = .ok () (s.withLinks (disconnectLinks s.net.links p)) := by
  rw [disconnect, run_bind_ok (run_checkPin hp)]
  rfl

/-- The links a connection keeps or adds. -/
theorem mem_connectLinks_of_mem (h : l ∈ links) : l ∈ connectLinks links p q := by
  unfold connectLinks
  split
  · exact h
  · exact List.mem_append_left _ h

/-- Two different pins are linked directly once connected. -/
theorem exists_mem_connectLinks (h : p ≠ q) : ∃ l ∈ connectLinks links p q, l.origin = .direct ∧ l.joins p q = true := by
  unfold connectLinks
  split
  next hl =>
    obtain ⟨l, hl, ho⟩ := List.any_eq_true.mp (hl.resolve_left h)
    exact ⟨l, hl, by simpa using ho⟩
  next => exact ⟨_, List.mem_append_right _ (List.mem_singleton.mpr rfl), rfl, Link.joins_iff.mpr (.inl ⟨rfl, rfl⟩)⟩

theorem connectLinks_self : connectLinks links p p = links := if_pos (.inl rfl)

/-- Connecting again adds nothing. -/
theorem connectLinks_connectLinks : connectLinks (connectLinks links p q) p q = connectLinks links p q := by
  by_cases h : p = q
  · rw [h, connectLinks_self]
  · obtain ⟨l, hl, ho, hj⟩ := exists_mem_connectLinks (links := links) h
    exact if_pos (.inr (List.any_eq_true.mpr ⟨l, hl, by simp [ho, hj]⟩))

theorem mem_disconnectLinks : l ∈ disconnectLinks links p ↔ l ∈ links ∧ l.p ≠ p ∧ l.q ≠ p := by
  simp [disconnectLinks]

/-- Settles O54: a connection adds a link if there is none yet, and a disconnection keeps the links without the pin. -/
theorem connectAndDisconnect : Obligations.ConnectAndDisconnect := by
  intro p q s hp hq
  refine ⟨⟨_, run_connect hp hq, ?_, fun x => by simp, fun l hl => mem_connectLinks_of_mem hl, ?_⟩, ?_,
    _, run_disconnect hp, netOf_eq_self fun l hl => ?_, fun x => by simp, fun l => mem_disconnectLinks⟩
  · by_cases h : p = q
    · rw [h]
      exact mem_netOf_self _ _
    · obtain ⟨l, hl, -, hj⟩ := exists_mem_connectLinks (links := s.net.links) h
      exact mem_netOf_of_joins hl hj
  · rw [run_connect (by simpa using hp) (by simpa using hq), State.withLinks_links, connectLinks_connectLinks]
    rfl
  · rw [run_connect hp hp, connectLinks_self]
    rfl
  · obtain ⟨-, h1, h2⟩ := mem_disconnectLinks.mp hl
    exact iff_of_false h1 h2

/-! ### The links of a connection -/

theorem mem_addLink : k ∈ addLink links l ↔ k ∈ links ∨ k = l := by
  unfold addLink
  split
  next h =>
    have h : l ∈ links := by simpa using h
    exact ⟨.inl, fun hk => hk.elim id fun e => e ▸ h⟩
  next => simp

/-- The loop of R231 adds a link for each index of both lists. -/
theorem mem_bindLinks : l ∈ bindLinks o ps qs links ↔
    l ∈ links ∨ ∃ (i : Nat) (a b : PinId), ps[i]? = some a ∧ qs[i]? = some b ∧ l = { p := a, q := b, origin := o } := by
  induction ps generalizing qs links with
  | nil => simp [bindLinks]
  | cons p ps ih =>
    cases qs with
    | nil => simp [bindLinks]
    | cons q qs =>
      rw [bindLinks, ih, mem_addLink, or_assoc]
      refine or_congr Iff.rfl ⟨?_, ?_⟩
      · rintro (rfl | ⟨i, a, b, ha, hb, rfl⟩)
        · exact ⟨0, p, q, rfl, rfl, rfl⟩
        · exact ⟨i + 1, a, b, ha, hb, rfl⟩
      · rintro ⟨_ | i, a, b, ha, hb, rfl⟩
        · cases ha; cases hb; exact .inl rfl
        · exact .inr ⟨i, a, b, ha, hb, rfl⟩

theorem mem_unbindLinks : l ∈ unbindLinks links o ↔ l ∈ links ∧ l.origin ≠ o := by simp [unbindLinks]

/-- The link of a connection between pin `a` of the connector `cc` and pin `b` of its peer, the MALE side's first (log entry 23). -/
def Connector.linkTo (cc : Connector) (o : LinkOrigin) (a b : PinId) : Link :=
  if cc.gender = .male then { p := a, q := b, origin := o } else { p := b, q := a, origin := o }

theorem Connector.linkTo_joins (cc : Connector) (o : LinkOrigin) (a b : PinId) : (cc.linkTo o a b).joins a b = true := by
  unfold Connector.linkTo
  split <;> simp [Link.joins]

@[simp] theorem Connector.linkTo_origin (cc : Connector) (o : LinkOrigin) (a b : PinId) : (cc.linkTo o a b).origin = o := by
  unfold Connector.linkTo
  split <;> rfl

/-- Binding two connectors adds a link for each index of both. -/
theorem mem_bindPair : l ∈ bindPair links c cc d dd ↔ l ∈ links ∨
    ∃ (i : Nat) (a b : PinId), cc.pins[i]? = some a ∧ dd.pins[i]? = some b ∧ l = cc.linkTo (bindOrigin c cc d) a b := by
  unfold bindPair
  cases hg : cc.gender with
  | male => simp [mem_bindLinks, Connector.linkTo, hg]
  | female =>
    simp only [mem_bindLinks, Connector.linkTo, hg, reduceCtorEq, if_false]
    refine or_congr Iff.rfl ⟨?_, ?_⟩
    · rintro ⟨i, a, b, ha, hb, rfl⟩
      exact ⟨i, b, a, hb, ha, rfl⟩
    · rintro ⟨i, a, b, ha, hb, rfl⟩
      exact ⟨i, b, a, hb, ha, rfl⟩

/-! ### Connecting and disconnecting (R231, R232) -/

theorem run_connectorAt (h : s.net.connectors[c]? = some cc) : (connectorAt c).run s = .ok cc s := by
  simp [connectorAt, h]

/-- The network with the peers of two connectors replaced. -/
def Net.withPeers (n : Net) (c d : Nat) (pc pd : Option Nat) : Net :=
  (n.modifyConnector c (fun k => { k with peer := pc })).modifyConnector d (fun k => { k with peer := pd })

theorem Net.connectors_withPeers (n : Net) (c d : Nat) (pc pd : Option Nat) (h : c ≠ d) (e : Nat) :
    (n.withPeers c d pc pd).connectors[e]? =
      if e = c then (n.connectors[e]?).map (fun k => { k with peer := pc })
      else if e = d then (n.connectors[e]?).map (fun k => { k with peer := pd })
      else n.connectors[e]? := by
  simp only [Net.withPeers, Net.modifyConnector]
  by_cases hc : e = c
  · rw [if_pos hc, hc, List.getElem?_modify_ne _ _ h.symm, List.getElem?_modify_eq]
    rfl
  · rw [if_neg hc]
    by_cases hd : e = d
    · rw [if_pos hd, hd, List.getElem?_modify_eq, List.getElem?_modify_ne _ _ h]
      rfl
    · rw [if_neg hd, List.getElem?_modify_ne _ _ (Ne.symm hd), List.getElem?_modify_ne _ _ (Ne.symm hc)]

/-- The peers may be set in either order. -/
theorem Net.withPeers_comm (n : Net) (c d : Nat) (pc pd : Option Nat) (h : c ≠ d) :
    n.withPeers c d pc pd = n.withPeers d c pd pc := by
  simp only [Net.withPeers, Net.modifyConnector, List.modify_modify_ne _ _ n.connectors h]

/-- Either side may be named first: the MALE side's pins are. -/
theorem bindOrigin_comm (h : cc.gender ≠ dd.gender) : bindOrigin d dd c = bindOrigin c cc d := by
  cases hc : cc.gender <;> cases hd : dd.gender <;> simp_all [bindOrigin]

theorem bindPair_comm (h : cc.gender ≠ dd.gender) : bindPair links d dd c cc = bindPair links c cc d dd := by
  rw [bindPair, bindPair, bindOrigin_comm h]
  cases hc : cc.gender <;> cases hd : dd.gender <;> simp_all

/-- Connecting two free connectors of opposite gender. -/
theorem run_connectorConnect (hc : s.net.connectors[c]? = some cc) (hd : s.net.connectors[d]? = some dd)
    (hg : cc.gender ≠ dd.gender) (hcp : cc.peer = none) (hdp : dd.peer = none) :
    (connectorConnect c d).run s =
      .ok () ((s.withLinks (bindPair s.net.links c cc d dd)).mapNet (fun n => n.withPeers c d (some d) (some c))) := by
  rw [connectorConnect, run_bind_ok (run_connectorAt hc), run_bind_ok (run_connectorAt hd), if_neg hg,
    if_neg (by simp [hcp, hdp])]
  rfl

/-- Disconnecting a connected connector. -/
theorem run_connectorDisconnect (hc : s.net.connectors[c]? = some cc) (hp : cc.peer = some d) :
    (connectorDisconnect c).run s =
      .ok () ((s.withLinks (unbindLinks s.net.links (bindOrigin c cc d))).mapNet (fun n => n.withPeers c d none none)) := by
  rw [connectorDisconnect, run_bind_ok (run_connectorAt hc), hp]
  rfl

/-- Settles O55: the two checks in their order, the links each index adds, and those that bear the connection's origin. -/
theorem connectorsBindAndUnbind : Obligations.ConnectorsBindAndUnbind := by
  intro c d cc dd s hc hd
  refine ⟨fun hg => ?_, fun hg hbusy => ?_, fun hg hcp hdp => ?_⟩
  · rw [connectorConnect, run_bind_ok (run_connectorAt hc), run_bind_ok (run_connectorAt hd), if_pos hg]
    exact run_raiseFault rfl
  · rw [connectorConnect, run_bind_ok (run_connectorAt hc), run_bind_ok (run_connectorAt hd), if_neg hg, if_pos hbusy]
    exact run_raiseFault rfl
  · have hcd : c ≠ d := fun e => hg (by rw [e, hd] at hc; cases hc; rfl)
    let t := (s.withLinks (bindPair s.net.links c cc d dd)).mapNet (fun n => n.withPeers c d (some d) (some c))
    have ht (e : Nat) : t.net.connectors[e]? = _ := Net.connectors_withPeers _ c d (some d) (some c) hcd e
    have htc : t.net.connectors[c]? = some { cc with peer := some d } := by rw [ht]; simp [hc, State.withLinks]
    have htd : t.net.connectors[d]? = some { dd with peer := some c } := by rw [ht]; simp [hd, hcd.symm, State.withLinks]
    refine ⟨t, _, run_connectorConnect hc hd hg hcp hdp, ?_, run_connectorDisconnect htc rfl, htc, htd,
      fun i p q hp hq => ⟨cc.linkTo (bindOrigin c cc d) p q, mem_bindPair.mpr (.inr ⟨i, p, q, hp, hq, rfl⟩),
        cc.linkTo_joins _ p q, by simp⟩, fun l => ?_, ?_⟩
    · rw [run_connectorConnect hd hc hg.symm hdp hcp, bindPair_comm hg]
      simp only [t, State.mapNet_eq, Net.withPeers_comm _ d c _ _ hcd.symm]
    · show l ∈ unbindLinks (bindPair s.net.links c cc d dd) (bindOrigin c cc d) ↔ _
      rw [mem_unbindLinks, mem_bindPair]
      refine ⟨fun ⟨hl, ho⟩ => ⟨hl.resolve_right ?_, ho⟩, fun ⟨hl, ho⟩ => ⟨.inl hl, ho⟩⟩
      rintro ⟨i, a, b, -, -, rfl⟩
      exact ho (cc.linkTo_origin _ a b)
    · refine List.ext_getElem? fun e => (Net.connectors_withPeers _ c d none none hcd e).trans ?_
      show (if e = c then (t.net.connectors[e]?).map _ else if e = d then (t.net.connectors[e]?).map _ else t.net.connectors[e]?) = _
      by_cases hec : e = c
      · rw [if_pos hec, hec, htc, hc, ← hcp]
        rfl
      · rw [if_neg hec]
        by_cases hed : e = d
        · rw [if_pos hed, hed, htd, hd, ← hdp]
          rfl
        · rw [if_neg hed, ht, if_neg hec, if_neg hed]
          rfl

/-! ### Adding and removing pins (R233, R234) -/

theorem run_modify_mapNet (f : Net → Net) (s : State) :
    (modify (fun s => s.mapNet f) : NetM Unit).run s = .ok () (s.mapNet f) := rfl

/-- The state with a connector changed, and other links. -/
def State.withConnector (s : State) (c : Nat) (f : Connector → Connector) (links : List Link) : State :=
  (s.mapNet (fun n => n.modifyConnector c f)).withLinks links

theorem State.withConnector_self (hc : s.net.connectors[c]? = some cc) (f : Connector → Connector) (links : List Link) :
    (s.withConnector c f links).net.connectors[c]? = some (f cc) := by
  refine (List.getElem?_modify_eq _ _ _).trans ?_
  rw [hc]
  rfl

theorem State.withConnector_ne {e : Nat} (he : e ≠ c) (f : Connector → Connector) (links : List Link) :
    (s.withConnector c f links).net.connectors[e]? = s.net.connectors[e]? :=
  List.getElem?_modify_ne _ _ (Ne.symm he)

theorem State.levelOf_withConnector (f : Connector → Connector) (links : List Link) (x : PinId) :
    (s.withConnector c f links).net.levelOf x = s.net.levelOf x := Net.levelOf_congr rfl rfl x

/-- A change of one connector leaves another. -/
theorem State.peer_modifyConnector (hd : s.net.connectors[d]? = some dd) (hcd : c ≠ d) (f : Connector → Connector) :
    (s.mapNet (fun n => n.modifyConnector c f)).net.connectors[d]? = some dd :=
  (List.getElem?_modify_ne _ _ hcd).trans hd

/-- A new pin of a connector without a peer. -/
theorem run_connectorAddPin_alone (hc : s.net.connectors[c]? = some cc) (hp : s.net.directionOf p ≠ none)
    (hpeer : cc.peer = none) : (connectorAddPin c p).run s =
      .ok () (s.withConnector c (fun k => { k with pins := k.pins ++ [p] }) s.net.links) := by
  rw [connectorAddPin, run_bind_ok (run_checkPin hp), run_bind_ok (run_connectorAt hc), hpeer]
  rfl

/-- A new pin of a connected connector is bound to the peer's pin at its index, if there is one. -/
theorem run_connectorAddPin_bound (hc : s.net.connectors[c]? = some cc) (hd : s.net.connectors[d]? = some dd) (hcd : c ≠ d)
    (hp : s.net.directionOf p ≠ none) (hpeer : cc.peer = some d) : (connectorAddPin c p).run s =
      .ok () (s.withConnector c (fun k => { k with pins := k.pins ++ [p] })
        (((dd.pins[cc.pins.length]?).map (cc.linkTo (bindOrigin c cc d) p)).elim s.net.links (addLink s.net.links))) := by
  rw [connectorAddPin, run_bind_ok (run_checkPin hp), run_bind_ok (run_connectorAt hc)]
  refine (run_bind_ok (run_modify_mapNet _ s)).trans ?_
  simp only [hpeer]
  rw [run_bind_ok (run_connectorAt (State.peer_modifyConnector hd hcd _))]
  cases dd.pins[cc.pins.length]? with
  | none => rfl
  | some q => cases hg : cc.gender <;> simp only [Option.map_some, Option.elim_some, Connector.linkTo, hg] <;> rfl

/-- Removing a pin the connector does not have. -/
theorem run_connectorRemovePin_absent (hc : s.net.connectors[c]? = some cc) (h : p ∉ cc.pins) :
    (connectorRemovePin c p).run s = .ok () s := by
  rw [connectorRemovePin, run_bind_ok (run_connectorAt hc), if_neg (by simpa using h)]
  rfl

/-- Removing a pin of a connector without a peer. -/
theorem run_connectorRemovePin_alone (hc : s.net.connectors[c]? = some cc) (h : p ∈ cc.pins) (hpeer : cc.peer = none) :
    (connectorRemovePin c p).run s =
      .ok () (s.withConnector c (fun _ => { cc with pins := cc.pins.erase p }) s.net.links) := by
  rw [connectorRemovePin, run_bind_ok (run_connectorAt hc), if_pos (by simpa using h), hpeer]
  rfl

/-- Removing a pin of a connected connector makes the binding again. -/
theorem run_connectorRemovePin_bound (hc : s.net.connectors[c]? = some cc) (hd : s.net.connectors[d]? = some dd) (hcd : c ≠ d)
    (h : p ∈ cc.pins) (hpeer : cc.peer = some d) : (connectorRemovePin c p).run s =
      .ok () (s.withConnector c (fun _ => { cc with pins := cc.pins.erase p })
        (bindPair (unbindLinks s.net.links (bindOrigin c cc d)) c { cc with pins := cc.pins.erase p } d dd)) := by
  rw [connectorRemovePin, run_bind_ok (run_connectorAt hc), if_pos (by simpa using h)]
  refine (run_bind_ok (run_modify_mapNet _ s)).trans ?_
  simp only [hpeer]
  rw [run_bind_ok (run_connectorAt (State.peer_modifyConnector hd hcd _))]
  rfl

/-- Settles O60: each call changes the connector, and the links as its peer says. -/
theorem connectorPinsStayBound : Obligations.ConnectorPinsStayBound := by
  intro c d cc dd p s hc hd hcd hp hpeer
  refine ⟨?_, run_connectorRemovePin_absent hc, fun hmem => ?_⟩
  · rcases hpeer with hpeer | hpeer
    · exact ⟨_, run_connectorAddPin_alone hc hp hpeer, State.withConnector_self hc _ _, fun e he => State.withConnector_ne he _ _,
        State.levelOf_withConnector _ _, fun _ => rfl, fun h => absurd (hpeer.symm.trans h) nofun⟩
    · refine ⟨_, run_connectorAddPin_bound hc hd hcd hp hpeer, State.withConnector_self hc _ _,
        fun e he => State.withConnector_ne he _ _, State.levelOf_withConnector _ _, fun h => absurd (hpeer.symm.trans h) nofun,
        fun _ l => ?_⟩
      show l ∈ Option.elim _ s.net.links (addLink s.net.links) ↔ _
      cases dd.pins[cc.pins.length]? with
      | none => simp
      | some q =>
        simp only [Option.map_some, Option.elim_some, mem_addLink, Option.some.injEq, exists_eq_left']
        rfl
  · rcases hpeer with hpeer | hpeer
    · exact ⟨_, run_connectorRemovePin_alone hc hmem hpeer, State.withConnector_self hc _ _,
        fun e he => State.withConnector_ne he _ _, State.levelOf_withConnector _ _, fun _ => rfl,
        fun h => absurd (hpeer.symm.trans h) nofun⟩
    · refine ⟨_, run_connectorRemovePin_bound hc hd hcd hmem hpeer, State.withConnector_self hc _ _,
        fun e he => State.withConnector_ne he _ _, State.levelOf_withConnector _ _, fun h => absurd (hpeer.symm.trans h) nofun,
        fun _ l => ?_⟩
      show l ∈ bindPair _ _ _ _ _ ↔ _
      rw [mem_bindPair, mem_unbindLinks]
      rfl

end Sys2Proof.Machine
end

section
/-! PROOFS. Notifications (R206, R207, R223): each sink of a pin that changes is called once; a sink that sets a pin propagates
before the call returns; a written bus's aggregate sink is called once if a pin changed. -/

namespace Sys2Proof.Machine

variable {n m : Net} {s t : State} {p q r u : PinId} {v : Level} {order : Nat → Nat} {tick : Wiring → NetM Unit}
  {bound fuel : Nat} {w : Wiring} {who : Owner} {ps : List PinId} {b : BusId}

/-! ### Sinks that do nothing -/

theorem Net.mem_calls {left : List PinId} {x : Note} : x ∈ n.calls v left ↔
    ∃ q ∈ left, n.directionOf q = some .input ∧ n.levelOf q ≠ v ∧ n.sinkOf q = some .done ∧ x = .pin q v := by
  simp only [Net.calls, Net.takes, List.mem_map, List.mem_filter, Bool.and_eq_true, decide_eq_true_eq, and_assoc,
    eq_comm (a := x)]

theorem Net.nodup_calls {left : List PinId} (h : left.Nodup) : (n.calls v left).Nodup :=
  (h.filter _).map fun _ _ e => (Note.pin.inj e).1

/-- A change of a pin calls the sinks of its followers that take the level, once each, and again calls none. -/
theorem sinksAreCalledOnce_pin (ho : s.net.ownerOf p = some who) (hd : s.net.directionOf p = some .output)
    (hv : s.net.levelOf p ≠ v) (hb : 1 ≤ s.params.maxDepth) (hu : s.net.unsettled = false)
    (hs : ∀ q ∈ netOf s.net.links p, ∀ k, s.net.sinkOf q = some k → k = .done) :
    ∃ (t : State) (calls : List Note), (setLevel order who p v).run s = .ok true t ∧ t.net.notes = calls ++ s.net.notes ∧
      calls.Nodup ∧ (∀ x, x ∈ calls ↔ ∃ q ∈ netOf s.net.links p, q ≠ p ∧ s.net.directionOf q = some .input ∧
        s.net.levelOf q ≠ v ∧ s.net.sinkOf q = some .done ∧ x = .pin q v) ∧
      (setLevel order who p v).run t = .ok false t := by
  obtain ⟨m, hrun, hm⟩ := run_setLevel_quiet (s.wiring_live (order := order) hb) hd hv
    fun q hq => hs q (Net.mem_followers.mp hq).1
  have hw : m.wires = s.net.wires := hm.wires.trans (s.net.wires_putLevel p v)
  have hput (x : PinId) : (s.net.putLevel p v).levelOf x = if x = p then v else s.net.levelOf x :=
    s.net.levelOf_putLevel p x v (by simp [hd])
  obtain ⟨calls, hn, hc⟩ := hm.notes
  refine ⟨s.withNet m, calls, (run_setLevel ho hu).trans hrun, by simpa using hn, ?_, fun x => ?_, ?_⟩
  · exact hc.nodup_iff.mpr (Net.nodup_calls ((nodup_netOf s.net.links p).filter _))
  · rw [hc.mem_iff, Net.mem_calls]
    refine exists_congr fun q => ?_
    rw [Net.mem_followers, and_assoc, hput, Net.directionOf_putLevel, Net.sinkOf_putLevel]
    refine and_congr_right fun _ => and_congr_right fun hq => ?_
    rw [if_neg hq]
  · have hpf : p ∉ s.net.followers p := fun h => (Net.mem_followers.mp h).2 rfl
    rw [run_setLevel ((Net.ownerOf_of_wires hw p).trans ho) ((Net.unsettled_of_wires hw).trans hu)]
    refine ((s.withNet m).wiring_live hb).run_setLevel_same ((hm.direction p).trans (by rw [Net.directionOf_putLevel, hd])) ?_
    rw [State.withNet_net, hm.level, hput]
    simp [hpf]

/-! ### The aggregate sink of a bus -/

theorem Net.valueOf_withNotes (n : Net) (notes : List Note) (ps : List PinId) :
    { n with notes := notes }.valueOf ps = n.valueOf ps := Net.valueOf_congr fun p _ => Net.levelOf_congr rfl rfl p

/-- Writing the bits of OUTPUT pins whose nets have no sinks, the nets being what they may. -/
theorem run_writeBits_silent (hw : w.Live) (hnd : ps.Nodup) (hd : ∀ p ∈ ps, s.net.directionOf p = some .output)
    (hs : ∀ p ∈ ps, ∀ q ∈ netOf s.net.links p, s.net.sinkOf q = none) (value : Nat) :
    ∃ changed m, (writeBits w.setLevel value ps).run s = .ok changed (s.withNet m) ∧
      (changed = true ↔ value % 2 ^ ps.length ≠ s.net.valueOf ps) ∧ m.wires = s.net.wires ∧ m.notes = s.net.notes ∧
      m.valueOf ps = value % 2 ^ ps.length := by
  have hset : ∀ p ∈ ps, ∀ (v : Level) (t : State),
      t.net.wires = s.net.wires ∧ t.net.notes = s.net.notes ∧ (∀ x, t.net.directionOf x = s.net.directionOf x) →
      ∃ changed m, (w.setLevel p v).run t = .ok changed (t.withNet m) ∧
        (changed = true ↔ t.net.levelOf p ≠ v) ∧
        (m.wires = s.net.wires ∧ m.notes = s.net.notes ∧ ∀ x, m.directionOf x = s.net.directionOf x) ∧
        ∀ x, x ∈ ps → m.levelOf x = if x ∈ [p] then v else t.net.levelOf x := by
    intro p hp v t ⟨hwt, hn, hdt⟩
    have hout := (hdt p).trans (hd p hp)
    by_cases hv : t.net.levelOf p = v
    · refine ⟨false, t.net, hw.run_setLevel_same hout hv, by simp [hv], ⟨hwt, hn, hdt⟩, fun x _ => ?_⟩
      by_cases hx : x = p <;> simp [hx, hv]
    · obtain ⟨m, hrun, hm⟩ := run_setLevel_drives hw hout hv fun q hq => by
        have hq := (Net.mem_followers.mp hq).1
        rw [Net.links_of_wires hwt] at hq
        rw [Net.sinkOf_of_wires hwt]
        exact hs p hp q hq
      refine ⟨true, m, hrun, by simp [hv], ⟨hm.wires.trans hwt, hm.notes.trans hn, fun x => (hm.direction x).trans (hdt x)⟩,
        fun x hx => ?_⟩
      rw [hm.level, hdt, hd x hx]
      simp
  obtain ⟨changed, m, hrun, hc, ⟨hwm, hn, -⟩, hbits, -⟩ := run_writeBits
    (I := fun m => m.wires = s.net.wires ∧ m.notes = s.net.notes ∧ ∀ x, m.directionOf x = s.net.directionOf x)
    (D := (· ∈ ps)) hset (fun p hp => ⟨hp, by simp⟩) (hnd.imp fun {p q} hpq x _ hx => by
      rw [List.mem_singleton] at hx ⊢
      exact fun e => hpq (hx.symm.trans e)) value ⟨rfl, rfl, fun _ => rfl⟩
  exact ⟨changed, m, hrun, hc, hwm, hn, Net.valueOf_eq fun i p hp => hbits i p p hp (List.mem_of_getElem? hp) (by simp)⟩

/-- A bus write calls an aggregate sink that does nothing once, with the value written, if a pin changed. -/
theorem sinksAreCalledOnce_bus {value : Nat} {k : BusSink} (h : s.net.busPins b = some ps) (hne : ps ≠ []) (hnd : ps.Nodup)
    (hb : 1 ≤ s.params.maxDepth) (hu : s.net.unsettled = false)
    (hps : ∀ p ∈ ps, s.net.ownerOf p = some who ∧ s.net.directionOf p = some .output ∧
      ∀ q ∈ netOf s.net.links p, s.net.sinkOf q = none)
    (hk : s.net.busSink b = some k) (hdone : k.sink = .done) :
    let changed := decide (value % 2 ^ ps.length ≠ s.net.valueOf ps)
    ∃ t, (busWrite order who b value).run s = .ok changed t ∧ t.net.valueOf ps = value % 2 ^ ps.length ∧
      t.net.notes = (if changed then [.bus b (value % 2 ^ ps.length)] else []) ++ s.net.notes := by
  intro changed
  obtain ⟨inner, hsetter⟩ := busSetter_eq (tick := pinStepWith) (s.wiring order).setLevel hb
  obtain ⟨c, m, hrun, hc, hw, hn, hvalue⟩ := run_writeBits_silent (s.wiring_live (order := order) hb) hnd
    (fun p hp => (hps p hp).2.1) (fun p hp => (hps p hp).2.2) (value % 2 ^ ps.length)
  rw [Nat.mod_mod] at hc hvalue
  obtain rfl : c = changed := Bool.eq_iff_iff.mpr (hc.trans (by simp [changed]))
  have hshared : s.net.sharedDirection ps = some .output := Net.sharedDirection_eq hne fun p hp => (hps p hp).2.1
  have hcall := run_writeBusWith (heard := fun sink ps v => involving ps (runSink pinStepWith inner sink.owner v sink.sink))
    (value := value) h hshared hrun
  rw [Net.busSink_of_wires hw, hk, ← hsetter, ← State.writeBus_wiring, ← run_busWrite h (fun p hp => (hps p hp).1) hu] at hcall
  dsimp only at hcall
  cases hch : changed with
  | false =>
    rw [hch] at hcall
    exact ⟨s.withNet m, hcall, hvalue, hn⟩
  | true =>
    rw [hch, hdone] at hcall
    refine ⟨_, hcall.trans (run_bind_ok (run_involving_ok rfl)), ?_, ?_⟩
    · exact (m.valueOf_withNotes _ ps).trans hvalue
    · exact congrArg _ hn

/-! ### A sink that sets a pin -/

/-- With one follower the update is one visit. -/
theorem run_updateWire_one {notify : PinId → Level → NetM Unit} (hf : s.net.followers p = [q]) :
    (updateWire order notify p).run s = (visitPin (fun s => s.net.levelOf p) notify q).run s := by
  have hvisit : (updateWire order notify p).run s =
      (visitAll order (visitPin (fun s => s.net.levelOf p) notify) 1 [q]).run s := by
    show (visitAll order _ (s.net.followers p).length (s.net.followers p)).run s = _
    rw [hf]
    rfl
  have hchoose : s.net.choose order [q] = (0, s.net) := by simp [Net.choose]
  rw [hvisit, run_visitAll_succ (q := q) (rest := []) (by rw [hchoose]; rfl), hchoose, State.withNet_self, EStateM.run_bind]
  cases (visitPin (fun s => s.net.levelOf p) notify q).run s <;> rfl

/-- What involves pins depends on what the call answers. -/
theorem run_involving_congr {α : Type} {call call' : NetM α} (h : call.run s = call'.run t) :
    (involving ps call).run s = (involving ps call').run t := by
  simp only [involving, EStateM.run_tryCatch, h]

/-- A change of a pin with one follower, an INPUT pin at the other level: both have the level when the sink is called. -/
theorem run_setLevel_pair (hd : s.net.directionOf p = some .output) (hv : s.net.levelOf p ≠ v) (hf : s.net.followers p = [q])
    (hq : s.net.directionOf q = some .input) (hqv : s.net.levelOf q ≠ v) :
    ((wiring tick order bound (fuel + 1)).setLevel p v).run s =
      (involving [p] (callSink tick (wiring tick order bound fuel) q v) >>= fun _ => pure true : NetM Bool).run
        (s.withNet ((s.net.putLevel p v).putLevel q v)) := by
  have hqp : q ≠ p := (Net.mem_followers.mp (hf ▸ List.mem_singleton_self q)).2
  let s1 := s.mapNet (fun n => n.putLevel p v)
  have hf1 : s1.net.followers p = [q] := by
    rw [← hf]
    simp [s1, State.mapNet, Net.followers]
  have hp1 : s1.net.levelOf p = v := (s.net.levelOf_putLevel p p v (by simp [hd])).trans (if_pos rfl)
  have ht1 : s1.net.takes v q = true := by
    have hd1 : s1.net.directionOf q = some .input := (s.net.directionOf_putLevel p q v).trans hq
    have hl1 : s1.net.levelOf q = s.net.levelOf q := (s.net.levelOf_putLevel p q v (by simp [hd])).trans (if_neg hqp)
    simp [Net.takes, hd1, hl1, hqv]
  show (changeLevel p v (involving [p] _)).run s = _
  rw [run_changeLevel_output hd hv, EStateM.run_bind, EStateM.run_bind]
  rw [run_involving_congr (t := s.withNet ((s.net.putLevel p v).putLevel q v))
    ((run_updateWire_one hf1).trans (run_visitPin_of_takes hp1 ht1))]

/-- The state with the call of a pin's sink noted. -/
def State.noted (s : State) (q : PinId) (v : Level) : State := s.mapNet (fun n => { n with notes := .pin q v :: n.notes })

/-- The call of a sink that sets one pin of its component. -/
theorem run_callSink_set {w : Wiring} {e : LevelExpr} (hs : s.net.sinkOf q = some (.setLevel r e .done))
    (ho : s.net.ownerOf r = s.net.ownerOf q) :
    (callSink tick w q v).run s =
      (w.setLevel r (e.eval (if v = .high then 1 else 0) (s.noted q v).net) >>= fun _ => pure () : NetM Unit).run
        (s.noted q v) := by
  obtain ⟨owner, howner⟩ := Net.exists_ownerOf hs
  have hcheck : (checkOwner owner r).run (s.noted q v) = .ok () (s.noted q v) :=
    run_checkOwner ((Net.ownerOf_of_wires rfl r).trans (ho.trans howner))
  simp only [State.noted] at hcheck
  simp only [callSink, EStateM.run_bind, EStateM.run_get, hs, howner, EStateM.run_set, runSink, hcheck, State.noted]

/-- A sink that copies its pin's level to an output pin has propagated that pin before the call returns. -/
theorem sinksAreCalledOnce_copy (ho : s.net.ownerOf p = some who) (hd : s.net.directionOf p = some .output)
    (hv : s.net.levelOf p ≠ v) (hb : 2 ≤ s.params.maxDepth) (hu : s.net.unsettled = false)
    (hn : netOf s.net.links p = [p, q]) (hq : s.net.directionOf q = some .input) (hqv : s.net.levelOf q ≠ v)
    (hqs : s.net.sinkOf q = some (.setLevel r (.note 0) .done)) (hqr : s.net.ownerOf r = s.net.ownerOf q)
    (hnr : netOf s.net.links r = [r, u]) (hr : s.net.directionOf r = some .output) (hrv : s.net.levelOf r ≠ v)
    (hud : s.net.directionOf u = some .input) (hus : s.net.sinkOf u = none) (hnd : [p, q, r, u].Nodup) :
    ∃ t, (setLevel order who p v).run s = .ok true t ∧ t.net.notes = .pin q v :: s.net.notes ∧
      ∀ x, t.net.levelOf x = if x ∈ [p, q, r, u] then v else s.net.levelOf x := by
  obtain ⟨hpq, hpr, hpu, hqr', hqu, hru⟩ : p ≠ q ∧ p ≠ r ∧ p ≠ u ∧ q ≠ r ∧ q ≠ u ∧ r ≠ u := by
    simpa [and_assoc] using hnd
  have hf : s.net.followers p = [q] := by simp [Net.followers, hn, hpq.symm]
  let n1 := (s.net.putLevel p v).putLevel q v
  have hw1 : n1.wires = s.net.wires := (Net.wires_putLevel _ q v).trans (s.net.wires_putLevel p v)
  have hd1 (x : PinId) : n1.directionOf x = s.net.directionOf x := by simp [n1]
  have hl1 (x : PinId) : n1.levelOf x = if x = q ∨ x = p then v else s.net.levelOf x := by
    rw [Net.levelOf_putLevel _ _ _ _ (by simp [hq]), Net.levelOf_putLevel _ _ _ _ (by simp [hd])]
    by_cases hxq : x = q <;> simp [hxq]
  let s2 := (s.withNet n1).noted q v
  have hd2 (x : PinId) : s2.net.directionOf x = s.net.directionOf x := (Net.directionOf_congr rfl rfl x).trans (hd1 x)
  have hl2 (x : PinId) : s2.net.levelOf x = n1.levelOf x := Net.levelOf_congr rfl rfl x
  have hw2 : s2.net.wires = s.net.wires := hw1
  have hn2 : netOf s2.net.links r = [r, u] := by rw [Net.links_of_wires hw2, hnr]
  have hlead : s2.net.Leads r := .of_pair hn2 ((hd2 r).trans hr) ((hd2 u).trans hud) ((Net.sinkOf_of_wires hw2 u).trans hus)
  rw [run_setLevel ho hu, State.wiring]
  generalize s.params.maxDepth = depth at hb ⊢
  obtain ⟨j, rfl⟩ := Nat.exists_eq_add_of_le' hb
  obtain ⟨m, hrun, hm, hlm⟩ := run_setLevel_leads (s := s2) (v := v)
    (wiring_live (tick := pinStepWith) (order := order) (bound := j + 2) (Nat.le_add_left 1 j)) hlead
    (by rw [hl2, hl1]; simpa [hqr'.symm, hpr.symm] using hrv)
  have hcopy : (LevelExpr.note 0).eval (if v = .high then 1 else 0) s2.net = v := by cases v <;> rfl
  have hsink := run_callSink_set (s := s.withNet n1) (q := q) (r := r) (v := v) (tick := pinStepWith)
    (w := wiring pinStepWith order (j + 2) (j + 1)) ((Net.sinkOf_of_wires hw1 q).trans hqs)
    (by rw [State.withNet_net, Net.ownerOf_of_wires hw1, Net.ownerOf_of_wires hw1, hqr])
  rw [hcopy, run_bind_ok hrun] at hsink
  refine ⟨s2.withNet m, ?_, ?_, fun x => ?_⟩
  · rw [run_setLevel_pair hd hv hf hq hqv, run_bind_ok (run_involving_ok hsink)]
    rfl
  · rw [State.withNet_net, hm.notes]
    simp [s2, n1, State.noted, State.mapNet]
  · rw [State.withNet_net, hlm, hn2, hl2, hl1]
    simp only [List.mem_cons, List.not_mem_nil, or_false, ← ite_or]
    refine if_congr ?_ rfl rfl
    tauto

/-- Settles O58: the three parts above. -/
theorem sinksAreCalledOnce : Obligations.SinksAreCalledOnce :=
  ⟨fun _ _ _ _ _ ho hd hv hb hu hs => sinksAreCalledOnce_pin ho hd hv hb hu hs,
    fun _ _ _ _ _ _ _ _ ho hd hv hb hu hn hq hqv hqs hqr hnr hr hrv hud hus hnd =>
      sinksAreCalledOnce_copy ho hd hv hb hu hn hq hqv hqs hqr hnr hr hrv hud hus hnd,
    fun _ _ _ _ _ _ _ h hne hnd hb hu hps hk hdone => sinksAreCalledOnce_bus h hne hnd hb hu hps hk hdone⟩

end Sys2Proof.Machine
end

section
/-! PROOFS. The overflow of an oscillating net (R214): whatever the bound, the setter stops with one record, and what it may have
changed are the levels of pins reachable from the source. -/

namespace Sys2Proof.Machine

variable {n m k : Net} {s : State} {p q : PinId} {v : Level} {order : Nat → Nat} {tick : Wiring → NetM Unit}
  {bound : Nat} {who : Owner} {links : List Link}

/-! ### The pins reachable from a pin -/

/-- A round of `Net.reachable` adds pins and keeps those it has. -/
theorem mem_addNew {qs acc : List PinId} {x : PinId} :
    x ∈ qs.foldl (fun l q => if l.contains q then l else l ++ [q]) acc ↔ x ∈ acc ∨ x ∈ qs := by
  induction qs generalizing acc with
  | nil => simp
  | cons q rest ih =>
    rw [List.foldl_cons, ih, List.mem_cons, ← or_assoc]
    refine or_congr_left ?_
    split
    next h =>
      have hq : q ∈ acc := by simpa using h
      exact ⟨.inl, fun hx => hx.elim id fun e => e ▸ hq⟩
    next => simp

theorem mem_round {seen acc : List PinId} {x : PinId} :
    x ∈ seen.foldl (fun acc p => (n.reaches p).foldl (fun l q => if l.contains q then l else l ++ [q]) acc) acc ↔
      x ∈ acc ∨ ∃ p ∈ seen, x ∈ n.reaches p := by
  induction seen generalizing acc with
  | nil => simp
  | cons p rest ih => rw [List.foldl_cons, ih, mem_addNew]; simp [or_assoc]

theorem Net.mem_reachable_of_mem {seen : List PinId} (h : p ∈ seen) (j : Nat) : p ∈ n.reachable j seen := by
  induction j generalizing seen with
  | zero => exact h
  | succ j ih => exact ih (mem_round.mpr (.inl h))

/-- What a pin reaches at once is reachable. -/
theorem Net.mem_reachable_of_reaches {seen : List PinId} {j : Nat} (hj : 1 ≤ j) (hp : p ∈ seen) (h : q ∈ n.reaches p) :
    q ∈ n.reachable j seen := by
  obtain ⟨j, rfl⟩ := Nat.exists_eq_add_of_le' hj
  exact Net.mem_reachable_of_mem (mem_round.mpr (.inr ⟨p, hp, h⟩)) j

/-- Two pins alone on a net are linked. -/
theorem exists_link_of_netOf_pair (h : netOf links p = [p, q]) : ∃ l ∈ links, l.joins p q = true := by
  have hex : ∃ l ∈ links, ¬(l.p = p ↔ l.q = p) := by
    by_contra hno
    have hself := netOf_eq_self fun l hl => not_not.mp fun h => hno ⟨l, hl, h⟩
    simp [h] at hself
  obtain ⟨l, hl, hone⟩ := hex
  refine ⟨l, hl, ?_⟩
  have hother {x : PinId} (hj : l.joins p x = true) (hx : x ≠ p) : x = q := by
    simpa [h, hx] using mem_netOf_of_joins hl hj
  by_cases hp : l.p = p
  · have hq : l.q ≠ p := fun e => hone (iff_of_true hp e)
    have hj : l.joins p l.q = true := Link.joins_iff.mpr (.inl ⟨hp, rfl⟩)
    exact hother hj hq ▸ hj
  · have hq : l.q = p := not_not.mp fun e => hone (iff_of_false hp e)
    have hj : l.joins p l.p = true := Link.joins_iff.mpr (.inr ⟨rfl, hq⟩)
    exact hother hj hp ▸ hj

/-- A pin reaches the pins it is linked to. -/
theorem Net.mem_reaches_of_joins {l : Link} (hpq : p ≠ q) (hl : l ∈ n.links) (hj : l.joins p q = true) : q ∈ n.reaches p := by
  unfold Net.reaches
  refine List.mem_append_left _ (List.mem_append_left _ (List.mem_filterMap.mpr ⟨l, hl, ?_⟩))
  rcases Link.joins_iff.mp hj with ⟨rfl, rfl⟩ | ⟨rfl, rfl⟩
  · simp
  · simp [Ne.symm hpq]

/-- The pins reachable from a pin. -/
def Net.reach (n : Net) (p : PinId) : List PinId := n.reachable (30 + n.pins.length) [p]

theorem Net.mem_reach_self (n : Net) (p : PinId) : p ∈ n.reach p := Net.mem_reachable_of_mem (List.mem_singleton_self p) _

theorem Net.mem_reach_of_netOf (hpq : p ≠ q) (h : netOf n.links p = [p, q]) : q ∈ n.reach p := by
  obtain ⟨l, hl, hj⟩ := exists_link_of_netOf_pair h
  exact Net.mem_reachable_of_reaches (by omega) (List.mem_singleton_self p) (Net.mem_reaches_of_joins hpq hl hj)

/-! ### Networks of one reach -/

/-- What a sink sets depends on the buses and the memory's pins. -/
theorem Sink.sets_congr (hb : ∀ b, m.busPins b = n.busPins b) (hm : m.memoryPins = n.memoryPins) (j : Sink) :
    j.sets m = j.sets n := by
  induction j with
  | done => rfl
  | setLevel p e next ih | setDirection p e next ih | turnBus b d next ih | readBus b next ih => simp only [Sink.sets, ih]
  | writeBus b bits next ih => simp only [Sink.sets, ih, hb]
  | branch e yes no next ihy ihn ih => simp only [Sink.sets, ihy, ihn, ih]
  | clock next ih => simp only [Sink.sets, ih, hm]

theorem Net.heardBuses_congr (hb : m.buses = n.buses) (ha : m.addrSink = n.addrSink) (hd : m.dataSink = n.dataSink) :
    m.heardBuses = n.heardBuses := by
  simp [Net.heardBuses, Net.busPins, hb, ha, hd]

/-- The wiring of `m` is that of `n`, whether they are settled or not. -/
def Net.SameWires (n m : Net) : Prop := m.wires = { n.wires with unsettled := m.unsettled }

theorem Net.SameWires.trans (h : n.SameWires m) (g : m.SameWires k) : n.SameWires k := by
  unfold Net.SameWires at *
  rw [g, h]

theorem Net.SameWires.sinkOf (h : n.SameWires m) (p : PinId) : m.sinkOf p = n.sinkOf p := by
  have hs : ({ n.wires with unsettled := m.unsettled } : Net).sinkOf p = n.wires.sinkOf p := by cases p <;> rfl
  rw [← m.sinkOf_wires, h, hs, n.sinkOf_wires]

theorem Net.SameWires.links_eq (h : n.SameWires m) : m.links = n.links := by
  simpa [Net.wires] using congrArg (fun j : Net => j.links) h

/-- Networks of one wiring reach the same pins. -/
theorem Net.SameWires.reaches (h : n.SameWires m) (p : PinId) : m.reaches p = n.reaches p := by
  have hbuses : m.buses = n.buses := by simpa [Net.wires] using congrArg (fun j : Net => j.buses) h
  have haddr : m.addrSink = n.addrSink := by simpa [Net.wires] using congrArg (fun j : Net => j.addrSink) h
  have hdata : m.dataSink = n.dataSink := by simpa [Net.wires] using congrArg (fun j : Net => j.dataSink) h
  have hmem : m.memoryPins = n.memoryPins := by simpa [Net.wires] using congrArg (fun j : Net => j.memoryPins) h
  have hsets : Sink.sets m = Sink.sets n :=
    funext (Sink.sets_congr (fun b => by cases b <;> simp [Net.busPins, hbuses]) hmem)
  simp only [Net.reaches, h.links_eq, h.sinkOf, hsets, Net.heardBuses_congr hbuses haddr hdata]

theorem Net.SameWires.reach (h : n.SameWires m) (p : PinId) : m.reach p = n.reach p := by
  have hlen : m.pins.length = n.pins.length := by simpa [Net.wires] using congrArg (fun j : Net => j.pins.length) h
  have hreachable (j : Nat) (seen : List PinId) : m.reachable j seen = n.reachable j seen := by
    induction j generalizing seen with
    | zero => rfl
    | succ j ih => simp only [Net.reachable, ih, h.reaches]
  rw [Net.reach, hlen, hreachable, Net.reach]

/-! ### Changes within reach of a pin -/

/-- Between `n` and `m` only notes, choices and levels of pins reachable from `p` have changed, and whether the network is
settled. -/
structure Net.Confined (p : PinId) (n m : Net) : Prop where
  wires : n.SameWires m
  direction : ∀ x, m.directionOf x = n.directionOf x
  level : ∀ x, x ∉ n.reach p → m.levelOf x = n.levelOf x

theorem Net.Confined.trans (h : n.Confined p m) (g : m.Confined p k) : n.Confined p k where
  wires := h.wires.trans g.wires
  direction x := (g.direction x).trans (h.direction x)
  level x hx := (g.level x (by rwa [h.wires.reach])).trans (h.level x hx)

/-- A pin never created has no level to change. -/
theorem Net.putLevel_of_none (h : n.directionOf p = none) (v : Level) : n.putLevel p v = n := by
  cases p with
  | ext j =>
    have hj : n.pins.modify j (fun q => { q with level := v }) = n.pins :=
      List.modify_eq_self (by simpa [Net.directionOf] using h)
    simp only [Net.putLevel, Net.modifyPin, hj]
  | _ => cases h

/-- Storing a level in one pin leaves every other, even if the pin was never created. -/
theorem Net.levelOf_putLevel_ne (n : Net) {p q : PinId} (v : Level) (h : q ≠ p) : (n.putLevel p v).levelOf q = n.levelOf q := by
  by_cases hd : n.directionOf p = none
  · rw [Net.putLevel_of_none hd]
  · rw [n.levelOf_putLevel p q v hd, if_neg h]

theorem Net.Confined.putLevel {x : PinId} (hx : x ∈ n.reach p) (v : Level) : n.Confined p (n.putLevel x v) where
  wires := by rw [Net.SameWires, Net.wires_putLevel, Net.unsettled_putLevel]; rfl
  direction y := n.directionOf_putLevel x y v
  level y hy := n.levelOf_putLevel_ne v fun e => hy (e ▸ hx)

theorem Net.Confined.withNotes (n : Net) (p : PinId) (notes : List Note) : n.Confined p { n with notes := notes } :=
  ⟨rfl, fun x => Net.directionOf_congr rfl rfl x, fun x _ => Net.levelOf_congr rfl rfl x⟩

/-- An overflow changes no more (R214). -/
theorem Net.Confined.unsettle (n : Net) (p : PinId) (f : Nat) : n.Confined p (n.unsettle p f) := by
  have hfold {qs : List PinId} {m : Net} (hm : n.Confined p m) (hqs : ∀ q ∈ qs, q ∈ n.reach p) :
      n.Confined p (qs.foldl (fun m q => m.putLevel q (Level.ofBool (Config.overflowLevel f q.number))) m) := by
    induction qs generalizing m with
    | nil => exact hm
    | cons q rest ih =>
      exact ih (hm.trans (.putLevel (by rw [hm.wires.reach]; exact hqs q (by simp)) _)) fun r hr => hqs r (by simp [hr])
  have h := hfold (qs := n.reach p) (m := n) ⟨rfl, fun _ => rfl, fun _ _ => rfl⟩ fun _ hq => hq
  exact h.trans ⟨rfl, fun x => Net.directionOf_congr rfl rfl x, fun x _ => Net.levelOf_congr rfl rfl x⟩

/-! ### The oscillation -/

/-- A pin and the one follower on its net, whose sink sets the pin back to the opposite level. -/
structure Net.Oscillates (who : Owner) (p q : PinId) (n : Net) : Prop where
  owner : n.ownerOf q = some who
  owner' : n.ownerOf p = some who
  output : n.directionOf p = some .output
  input : n.directionOf q = some .input
  net : netOf n.links p = [p, q]
  sink : n.sinkOf q = some (.setLevel p (.not (.note 0)) .done)

theorem Net.Oscillates.of_wires (h : n.Oscillates who p q) (hw : m.wires = n.wires)
    (hd : ∀ x, m.directionOf x = n.directionOf x) : m.Oscillates who p q where
  owner := (Net.ownerOf_of_wires hw q).trans h.owner
  owner' := (Net.ownerOf_of_wires hw p).trans h.owner'
  output := (hd p).trans h.output
  input := (hd q).trans h.input
  net := by rw [Net.links_of_wires hw, h.net]
  sink := (Net.sinkOf_of_wires hw q).trans h.sink

theorem Net.Oscillates.ne (h : n.Oscillates who p q) : p ≠ q := fun e => by
  have := h.output.symm.trans (e ▸ h.input)
  simp at this

/-- The record of the overflow at pin `p` (R214). -/
def State.overflowRec (s : State) (p : PinId) : FaultRec :=
  { kind := .propagationOverflow p (s.params.maxDepth + 1), cycle := s.cycleCounter }

/-- The call stops with the overflow, and what follows from its changes is left open. -/
theorem run_involving_overflowed {call : NetM Unit} {s t : State} {m : Net}
    (h : call.run s = .error (.fault (.propagationOverflow (t.overflowRec p)))
      { t with faultLog := t.faultLog ++ [t.overflowRec p], net := m }) :
    ∃ m', (involving [p] call >>= fun _ => pure true : NetM Bool).run s =
        .error (.fault (.propagationOverflow (t.overflowRec p))) { t with faultLog := t.faultLog ++ [t.overflowRec p], net := m' } ∧
      m.Confined p m' ∧ m'.unsettled = true := by
  refine ⟨_, run_bind_error (run_involving_overflow h), ?_, ?_⟩
  · exact Net.Confined.unsettle m p _
  · rfl

/-- At every depth left the oscillation ends in the overflow. -/
theorem run_oscillation (fuel : Nat) (h : s.net.Oscillates who p q) (hp : s.net.levelOf p ≠ v) (hq : s.net.levelOf q ≠ v) :
    ∃ m, ((wiring tick order bound fuel).setLevel p v).run s =
        .error (.fault (.propagationOverflow (s.overflowRec p))) { s with faultLog := s.faultLog ++ [s.overflowRec p], net := m } ∧
      s.net.Confined p m ∧ m.unsettled = true := by
  induction fuel generalizing s v with
  | zero =>
    have hover : (overflow p).run (s.mapNet (fun n => n.putLevel p v)) = .error (.fault (.propagationOverflow (s.overflowRec p)))
        { s with faultLog := s.faultLog ++ [s.overflowRec p], net := s.net.putLevel p v } := run_overflow
    obtain ⟨m, hrun, hm, hu⟩ := run_involving_overflowed hover
    refine ⟨m, ?_, (Net.Confined.putLevel (s.net.mem_reach_self p) v).trans hm, hu⟩
    rw [← hrun]
    exact run_changeLevel_output h.output hp
  | succ fuel ih =>
    let n1 := (s.net.putLevel p v).putLevel q v
    let s2 := (s.withNet n1).noted q v
    have hw1 : n1.wires = s.net.wires := (Net.wires_putLevel _ q v).trans (s.net.wires_putLevel p v)
    have hd1 (x : PinId) : n1.directionOf x = s.net.directionOf x := by simp [n1]
    have hl1 (x : PinId) (hx : x = p ∨ x = q) : n1.levelOf x = v := by
      rw [Net.levelOf_putLevel _ _ _ _ (by simp [h.input]), Net.levelOf_putLevel _ _ _ _ (by simp [h.output])]
      rcases hx with rfl | rfl <;> simp
    have hc1 : s.net.Confined p n1 := (Net.Confined.putLevel (s.net.mem_reach_self p) v).trans
      (.putLevel (Net.mem_reach_of_netOf h.ne (by simpa using h.net)) v)
    have h2 : s2.net.Oscillates who p q := h.of_wires hw1 fun x => (Net.directionOf_congr rfl rfl x).trans (hd1 x)
    have hback (x : PinId) (hx : x = p ∨ x = q) : s2.net.levelOf x ≠ Level.ofBool (!v.toBool) := by
      rw [show s2.net.levelOf x = v from (Net.levelOf_congr rfl rfl x).trans (hl1 x hx)]
      exact (Level.ofBool_not_ne v).symm
    obtain ⟨m, hrun, hm, -⟩ := ih h2 (hback p (.inl rfl)) (hback q (.inr rfl))
    have heval : (LevelExpr.not (.note 0)).eval (if v = .high then 1 else 0) s2.net = Level.ofBool (!v.toBool) := by
      cases v <;> rfl
    have hsink := run_callSink_set (s := s.withNet n1) (q := q) (v := v) (tick := tick) (w := wiring tick order bound fuel)
      ((Net.sinkOf_of_wires hw1 q).trans h.sink)
      (by rw [State.withNet_net, Net.ownerOf_of_wires hw1, Net.ownerOf_of_wires hw1, h.owner, h.owner'])
    rw [heval, run_bind_error hrun] at hsink
    obtain ⟨m', hrun', hm', hu'⟩ := run_involving_overflowed (t := s) (m := m) hsink
    have hf : s.net.followers p = [q] := by simp [Net.followers, h.net, h.ne.symm]
    refine ⟨m', ?_, ((hc1.trans (.withNotes n1 p _)).trans hm).trans hm', hu'⟩
    rw [run_setLevel_pair h.output hp hf h.input hq]
    exact hrun'

/-- Settles O59: the oscillation at full depth, and the refusals that follow on a network that is not settled. -/
theorem oscillationOverflows : Obligations.OscillationOverflows := by
  intro order who p q v s hu hop hoq hdp hdq hvp hvq hnet hsink
  obtain ⟨m, hrun, hm, hmu⟩ := run_oscillation (tick := pinStepWith) (order := order) (bound := s.params.maxDepth)
    s.params.maxDepth ⟨hoq, hop, hdp, hdq, hnet, hsink⟩ hvp hvq
  refine ⟨_, (run_setLevel hop hu).trans hrun, rfl, hmu, hm.level, hm.direction, hm.wires.links_eq,
    run_withWiring_unsettled hmu, fun w x l hx => ?_⟩
  rw [setLevel, run_bind_ok (run_checkOwner hx)]
  exact run_withWiring_unsettled hmu

end Sys2Proof.Machine
end

section
/-! PROOFS. One micro-cycle step inside a sequence performs the sequence's next row; what the rows' operations leave of that;
and the kinds of the instructions: what `exec` does, by the kind of an opcode, and that the kind's operation sees the
programmer's registers only. -/

namespace Sys2Proof.Machine

variable {s t u : State} {rows : Nat → State → Row} {c : Nat}

/-! ### A sequence in progress -/

/-- The rows of the sequence a CPU is in (R302, R303). -/
def rowsOf (q : Seq) (opcode : Byte) : Nat → State → Row :=
  match q with
  | .instr => instrRow (kindOf opcode)
  | .irq => irqRow
  | .reset => resetRow

/-- The cycle of a row, when nothing stalls it (R305). -/
def Row.perform (s : State) : Row → State
  | .read addr after => after (s.busRead addr) (s.readCycle addr)
  | .write addr v after => after (s.writeCycle addr v)

@[simp] theorem Row.perform_read (s : State) (addr : Word) (after : Byte → State → State) :
    (Row.read addr after).perform s = after (s.busRead addr) (s.readCycle addr) := rfl

@[simp] theorem Row.perform_write (s : State) (addr : Word) (v : Byte) (after : State → State) :
    (Row.write addr v after).perform s = after (s.writeCycle addr v) := rfl

@[simp] theorem Row.perform_fetchRow (s : State) (after : Byte → State → State) :
    (fetchRow s after).perform s = after (s.busRead s.pc) (s.fetchCycle (s.busRead s.pc)) := rfl

@[simp] theorem Row.perform_dummyRow (s : State) (addr : Word) (after : State → State) :
    (dummyRow addr after).perform s = after (s.readCycle addr) := rfl

theorem Row.perform_andThen (r : Row) (f : State → State) (s : State) :
    (r.andThen f).perform s = f (r.perform s) := by
  cases r <;> rfl

theorem State.microCycle_ready (h : s.rdyLow = false) : s.microCycle = s.currentRow.perform s := by
  unfold State.microCycle
  cases s.currentRow <;> simp [h]

theorem State.currentRow_inside (h : s.micro.stage ≠ .opcode) :
    s.currentRow = rowsOf s.micro.seq s.micro.opcode (s.micro.decodeCycle + 1) s := by
  unfold State.currentRow rowsOf
  cases e : s.micro.stage with
  | opcode => exact absurd e h
  | decode | execute => cases s.micro.seq <;> rfl

/-- `s` is inside a sequence, and nothing stops its next cycle. -/
structure State.Running (s : State) : Prop where
  resetHigh : s.resetLow = false
  rdyHigh : s.rdyLow = false
  notHeld : s.resetHeld = false
  notJammed : s.jammed = false
  stage : s.micro.stage ≠ .opcode

theorem State.release_eq (h : s.resetHeld = false) : { s with resetHeld := false } = s := by
  cases s
  cases h
  rfl

/-- A micro-cycle step inside a sequence performs its next row. -/
@[simp] theorem microStep_running (h : s.Running) :
    microStep s = (rowsOf s.micro.seq s.micro.opcode (s.micro.decodeCycle + 1) s).perform s := by
  unfold microStep
  rw [s.prelude_inside h.resetHigh h.notJammed h.stage, State.release_eq h.notHeld]
  dsimp only
  rw [State.microCycle_ready h.rdyHigh, State.currentRow_inside h.stage]

theorem State.Running.congr (h : s.Running) (hreset : t.resetLow = s.resetLow) (hrdy : t.rdyLow = s.rdyLow)
    (hheld : t.resetHeld = s.resetHeld) (hjam : t.jammed = s.jammed) (hstage : t.micro.stage = s.micro.stage) :
    t.Running :=
  ⟨hreset.trans h.resetHigh, hrdy.trans h.rdyHigh, hheld.trans h.notHeld, hjam.trans h.notJammed, hstage ▸ h.stage⟩

section
variable (s : State)

@[simp] theorem State.running_readCycleAs (addr : Word) (v : Byte) : (s.readCycleAs addr v).Running ↔ s.Running :=
  ⟨fun h => h.congr (by simp) (by simp) rfl rfl rfl, fun h => h.congr (by simp) (by simp) rfl rfl rfl⟩

@[simp] theorem State.running_writeCycle (addr : Word) (v : Byte) : (s.writeCycle addr v).Running ↔ s.Running :=
  ⟨fun h => h.congr (by simp) (by simp) rfl rfl rfl, fun h => h.congr (by simp) (by simp) rfl rfl rfl⟩

@[simp] theorem State.running_incPc : s.incPc.Running ↔ s.Running := ⟨fun h => { h with }, fun h => { h with }⟩

@[simp] theorem State.running_setPc (w : Word) : (s.setPc w).Running ↔ s.Running :=
  ⟨fun h => { h with }, fun h => { h with }⟩

@[simp] theorem State.running_incSp : s.incSp.Running ↔ s.Running := ⟨fun h => { h with }, fun h => { h with }⟩

@[simp] theorem State.running_decSp : s.decSp.Running ↔ s.Running := ⟨fun h => { h with }, fun h => { h with }⟩

@[simp] theorem State.running_setI : s.setI.Running ↔ s.Running := ⟨fun h => { h with }, fun h => { h with }⟩

@[simp] theorem State.running_withScratch (f : Scratch → Scratch) : (s.withScratch f).Running ↔ s.Running :=
  ⟨fun h => { h with }, fun h => { h with }⟩

@[simp] theorem State.running_poll : s.poll.Running ↔ s.Running := by
  unfold State.poll
  split <;> exact ⟨fun h => { h with }, fun h => { h with }⟩

end

/-- `s` has performed `c` cycles of the sequence of the given rows, and nothing stops the next. -/
structure State.Going (rows : Nat → State → Row) (c : Nat) (s : State) : Prop extends s.Running where
  rows : rowsOf s.micro.seq s.micro.opcode = rows
  cycle : s.micro.decodeCycle = c

theorem microStep_of_going (h : s.Going rows c) : microStep s = (rows (c + 1) s).perform s := by
  rw [microStep_running h.toRunning, h.rows, h.cycle]

theorem State.Going.readCycle (h : s.Going rows c) (addr : Word) : (s.readCycle addr).Going rows (c + 1) :=
  ⟨(s.running_readCycleAs addr _).mpr h.toRunning, h.rows, congrArg (· + 1) h.cycle⟩

theorem State.Going.writeCycle (h : s.Going rows c) (addr : Word) (v : Byte) :
    (s.writeCycle addr v).Going rows (c + 1) :=
  ⟨(s.running_writeCycle addr _).mpr h.toRunning, h.rows, congrArg (· + 1) h.cycle⟩

theorem State.Going.incPc (h : s.Going rows c) : s.incPc.Going rows c := { h with }

theorem State.Going.poll (h : s.Going rows c) : s.poll.Going rows c := by
  unfold State.poll
  split <;> exact { h with }

theorem State.Going.pollIf (h : s.Going rows c) (now : Bool) : (s.pollIf now).Going rows c := by
  cases now with
  | false => exact h
  | true => exact h.poll

@[simp] theorem State.going_withScratch (f : Scratch → Scratch) :
    (s.withScratch f).Going rows c ↔ s.Going rows c :=
  ⟨fun h => { h with }, fun h => { h with }⟩

theorem microSteps_add (j k : Nat) (s : State) : microSteps (j + k) s = microSteps k (microSteps j s) := by
  induction j generalizing s with
  | zero => rw [Nat.zero_add]; rfl
  | succ j ih => rw [Nat.succ_add]; exact ih _

/-! ### The scratch registers, which only the rows read (R63)

A sequence run whole keeps its intermediate values to itself; the rows latch them. So a latch is pushed outward through the
operations that follow it, until the end of the sequence discards it. -/

section
variable (s : State) (f g : Scratch → Scratch)

@[simp] theorem State.withScratch_scratch : (s.withScratch f).micro.scratch = f s.micro.scratch := rfl

@[simp] theorem State.withScratch_seq : (s.withScratch f).micro.seq = s.micro.seq := rfl

@[simp] theorem State.withScratch_opcode : (s.withScratch f).micro.opcode = s.micro.opcode := rfl

@[simp] theorem State.withScratch_stage : (s.withScratch f).micro.stage = s.micro.stage := rfl

@[simp] theorem State.withScratch_decodeCycle : (s.withScratch f).micro.decodeCycle = s.micro.decodeCycle := rfl

@[simp] theorem State.withScratch_disturbed : (s.withScratch f).micro.disturbed = s.micro.disturbed := rfl

@[simp] theorem State.withScratch_regs : (s.withScratch f).regs = s.regs := rfl

@[simp] theorem State.withScratch_x : (s.withScratch f).x = s.x := rfl

@[simp] theorem State.withScratch_y : (s.withScratch f).y = s.y := rfl

@[simp] theorem State.withScratch_sp : (s.withScratch f).sp = s.sp := rfl

@[simp] theorem State.withScratch_p : (s.withScratch f).p = s.p := rfl

@[simp] theorem State.withScratch_pc : (s.withScratch f).pc = s.pc := rfl

@[simp] theorem State.withScratch_irqPending : (s.withScratch f).irqPending = s.irqPending := rfl

@[simp] theorem State.withScratch_cycleCounter : (s.withScratch f).cycleCounter = s.cycleCounter := rfl

@[simp] theorem State.withScratch_aecLow : (s.withScratch f).aecLow = s.aecLow := rfl

@[simp] theorem State.withScratch_rdyLow : (s.withScratch f).rdyLow = s.rdyLow := rfl

@[simp] theorem State.withScratch_busRead (a : Word) : (s.withScratch f).busRead a = s.busRead a := rfl

@[simp] theorem State.withScratch_withScratch :
    (s.withScratch f).withScratch g = s.withScratch fun c => g (f c) := rfl

@[simp] theorem State.readCycleAs_withScratch (a : Word) (v : Byte) :
    (s.withScratch f).readCycleAs a v = (s.readCycleAs a v).withScratch f := rfl

@[simp] theorem State.writeCycle_withScratch (a : Word) (v : Byte) :
    (s.withScratch f).writeCycle a v = (s.writeCycle a v).withScratch f := rfl

@[simp] theorem State.incPc_withScratch : (s.withScratch f).incPc = s.incPc.withScratch f := rfl

@[simp] theorem State.setPc_withScratch (w : Word) : (s.withScratch f).setPc w = (s.setPc w).withScratch f := rfl

@[simp] theorem State.incSp_withScratch : (s.withScratch f).incSp = s.incSp.withScratch f := rfl

@[simp] theorem State.decSp_withScratch : (s.withScratch f).decSp = s.decSp.withScratch f := rfl

@[simp] theorem State.setI_withScratch : (s.withScratch f).setI = s.setI.withScratch f := rfl

@[simp] theorem State.poll_withScratch : (s.withScratch f).poll = s.poll.withScratch f := by
  have hp : (s.withScratch f).params = s.params := rfl
  unfold State.poll
  rw [hp]
  split <;> rfl

@[simp] theorem State.pollIf_withScratch (now : Bool) : (s.withScratch f).pollIf now = (s.pollIf now).withScratch f := by
  cases now with
  | false => rfl
  | true => exact s.poll_withScratch f

@[simp] theorem State.endInstr_withScratch : (s.withScratch f).endInstr = s.endInstr := by
  have hp : (s.withScratch f).params = s.params := rfl
  unfold State.endInstr
  rw [hp]
  split <;> rfl

@[simp] theorem State.endTrap_withScratch : (s.withScratch f).endTrap = s.endTrap := by
  have hp : (s.withScratch f).params = s.params := rfl
  unfold State.endTrap
  rw [hp]
  split <;> rfl

end

/-- The rows' latches are updates of the scratch registers. -/
theorem State.latch_eq (s : State) :
    (∀ v, s.latchLo v = s.withScratch fun c => { c with lo := v }) ∧
    (∀ v, s.latchHi v = s.withScratch fun c => { c with hi := v, base := mkWord v c.lo, ea := mkWord v c.lo }) ∧
    (∀ v, s.latchPtr v = s.withScratch fun c => { c with ptr := v }) ∧
    (∀ a, s.latchEa a = s.withScratch fun c => { c with ea := a }) ∧
    (∀ v, s.latchOperand v = s.withScratch fun c => { c with operand := v }) ∧
    (∀ v, s.latchOffset v = s.withScratch fun c => { c with offset := v }) :=
  ⟨fun _ => rfl, fun _ => rfl, fun _ => rfl, fun _ => rfl, fun _ => rfl, fun _ => rfl⟩

/-! ### A kind's operation and the byte it writes -/

/-- The byte that an instruction of a kind writes or, for a high-byte store, takes from a register. -/
def Kind.byte : Kind → Byte → State → Byte
  | .write _ value, _ => value
  | .rmw _ result _, v => result v
  | .high _ reg _, _ => reg
  | .push value, _ => value
  | _, _ => fun _ => 0

/-- The operation of a kind and the byte it writes depend on the programmer's registers only. -/
def Kind.ByRegs (k : Kind) : Prop := ∀ (v : Byte) (t u : State),
  (k.effect v (t.withRegs u.regs)).regs = (k.effect v u).regs ∧ k.byte v (t.withRegs u.regs) = k.byte v u

theorem kindOf_byRegs (opcode : Byte) : (kindOf opcode).ByRegs := by
  obtain ⟨n⟩ := opcode
  fin_cases n
  all_goals exact fun _ _ _ => ⟨rfl, rfl⟩

theorem Kind.ByRegs.byte_congr {k : Kind} (hk : k.ByRegs) (h : t.regs = u.regs) (v : Byte) : k.byte v t = k.byte v u := by
  have e := (hk v t u).2
  rwa [← h] at e

theorem Kind.ByRegs.effect_withScratch {k : Kind} (hk : k.ByRegs) (hr : k.OnRegs) (v : Byte) (t : State)
    (f : Scratch → Scratch) : k.effect v (t.withScratch f) = (k.effect v t).withScratch f := by
  have e : (k.effect v (t.withScratch f)).regs = (k.effect v t).regs := (hk v (t.withScratch f) t).1
  rw [hr v (t.withScratch f), e, hr v t]
  rfl

/-! ### A kind's instruction, run whole -/

/-- The cycles of a mode before the operand's (R354 to R361), with the operand bytes `lo` and `hi`. -/
def MemMode.head (m : MemMode) (forced : Bool) (op lo hi : Byte) (s : State) : State :=
  let addr := mkWord hi lo
  match m with
  | .zp => s.fetch2 op lo
  | .zpx | .zpy => s.headZpIndexed op lo
  | .abs => s.fetch3 op addr
  | .abx => if forced || crosses addr s.x then s.headAbsFixed op addr s.x else s.fetch3 op addr
  | .aby => if forced || crosses addr s.y then s.headAbsFixed op addr s.y else s.fetch3 op addr
  | .izx => s.headIzx op lo
  | .izy => if forced || crosses (s.baseIzy op lo) s.y then s.headIzyFixed op lo else s.headIzy op lo

/-- The base address that those cycles latch; a zero page mode latches none. -/
def MemMode.base (m : MemMode) (op lo hi : Byte) (s : State) : Word :=
  match m with
  | .zp | .zpx | .zpy => s.micro.scratch.base
  | .abs | .abx | .aby => mkWord hi lo
  | .izx => s.eaIzx op lo
  | .izy => s.baseIzy op lo

/-- The effective address of a mode. -/
def MemMode.ea (m : MemMode) (op lo hi : Byte) (s : State) : Word :=
  match m with
  | .zp => zpAddr lo
  | .zpx => s.eaZpx lo
  | .zpy => s.eaZpy lo
  | .abs => mkWord hi lo
  | .abx => s.eaAbx (mkWord hi lo)
  | .aby => s.eaAby (mkWord hi lo)
  | .izx => s.eaIzx op lo
  | .izy => s.eaIzy op lo

/-- What an instruction of a kind, run whole, leaves of `s`: the model's own meanings, by kind. -/
def State.runKind (s : State) (k : Kind) (op lo hi : Byte) : State :=
  match k with
  | .implied e => implied op e s
  | .acc result e => accumulator op result e s
  | .imm e => immediate op lo e s
  | .read m e => (m.head false op lo hi s).readTail (m.ea op lo hi s) e
  | .write m value => (m.head true op lo hi s).writeTail (m.ea op lo hi s) value
  | .rmw m result e => (m.head true op lo hi s).modifyTail (m.ea op lo hi s) result e
  | .high m reg e => (m.head true op lo hi s).highStoreTail (m.base op lo hi s) (m.index s) reg e
  | .branch cond => branch op lo cond s
  | .push value => push op value s
  | .pull e => pull op e s
  | .jmpAbs => jmpAbsolute op (mkWord hi lo) s
  | .jmpInd => jmpIndirect op (mkWord hi lo) s
  | .jsr => jsr op (mkWord hi lo) s
  | .rts => rts op s
  | .rti => rti op s
  | .brk => breakSeq op lo s
  | .jam => jam op s

/-- The dispatch by instruction and that by opcode agree: the instruction of an opcode's entry runs as the opcode's kind. -/
theorem exec_entry (opcode : Byte) :
    ∃ e, entryOf opcode = some e ∧
      ∀ lo hi s, exec (e.instr lo hi) s = .next (s.runKind (kindOf opcode) opcode lo hi) := by
  obtain ⟨n⟩ := opcode
  fin_cases n
  all_goals exact ⟨_, rfl, fun _ _ _ => rfl⟩

end Sys2Proof.Machine
end

section
/-! PROOFS. The memory kinds (R353 to R361, R372): the rows of an addressing mode lead to the operand's cycle just where the
mode's cycles, run whole, stop; then the rows of each class of instruction end it as its tail does. -/

namespace Sys2Proof.Machine

variable {s t u : State} {rows : Nat → State → Row} {c n : Nat} {m : MemMode} {forced polls : Bool} {ea base : Word}
  {op lo hi : Byte}

@[simp] theorem loByte_mkWord (hi lo : Byte) : loByte (mkWord hi lo) = lo := BitVec.extractLsb'_append_eq_right

@[simp] theorem hiByte_mkWord (hi lo : Byte) : hiByte (mkWord hi lo) = hi := BitVec.extractLsb'_append_eq_left

theorem State.pollIf_true (s : State) : s.pollIf true = s.poll := rfl

theorem State.pollIf_false (s : State) : s.pollIf false = s := rfl

/-! ### The index and the operand's cycle -/

theorem MemMode.index_congr (m : MemMode) (h : t.regs = u.regs) : m.index t = m.index u := by
  cases m with
  | zp | abs => rfl
  | zpx | abx | izx => exact congrArg Regs.x h
  | zpy | aby | izy => exact congrArg Regs.y h

@[simp] theorem MemMode.index_readCycleAs (m : MemMode) (s : State) (addr : Word) (v : Byte) :
    m.index (s.readCycleAs addr v) = m.index s := m.index_congr (by simp)

@[simp] theorem MemMode.index_withScratch (m : MemMode) (s : State) (f : Scratch → Scratch) :
    m.index (s.withScratch f) = m.index s := m.index_congr (by simp)

@[simp] theorem operandCycle_pollIf (m : MemMode) (forced now : Bool) (s : State) :
    operandCycle m forced (s.pollIf now) = operandCycle m forced s := by
  cases now with
  | false => rfl
  | true => cases m <;> simp [operandCycle, State.pollIf_true, MemMode.crossed, MemMode.index]

theorem operandCycle_forced (m : MemMode) (t u : State) : operandCycle m true t = operandCycle m true u := by
  cases m <;> rfl

/-! ### The rows before the operand's cycle -/

/-- The rows before the operand's cycle are the mode's; the last of them polls, if `polls`. -/
def MemMode.Leads (m : MemMode) (forced polls : Bool) (rows : Nat → State → Row) : Prop :=
  ∀ c s, c < operandCycle m forced s →
    rows c s = (headRow m c s).andThen fun t => t.pollIf (polls && decide (c + 1 = operandCycle m forced t))

theorem oneCycleOperand_leads (m : MemMode) (forced : Bool) (last : State → Row) :
    m.Leads forced true (fun c s => oneCycleOperand m forced (last s) c s) := fun c s hc => by
  simp only [oneCycleOperand, if_pos hc, Bool.true_and]

theorem modifyRow_leads (m : MemMode) (result : Byte → State → Byte) (effect : Byte → State → State) :
    m.Leads true false (modifyRow m result effect) := fun c s hc => by
  simp only [modifyRow, if_pos hc, Bool.false_and]
  cases headRow m c s <;> rfl

theorem headRow_going (m : MemMode) (k : Nat) : (headRow m k s).Maps (State.Going rows c) (State.Going rows c) := by
  unfold headRow
  split <;> simp +contextual [Row.Maps, fetchRow, dummyRow, State.latchLo, State.latchHi, State.latchPtr, State.latchEa,
    State.Going.incPc]

theorem State.Going.headRow (h : s.Going rows c) (m : MemMode) (k : Nat) :
    ((headRow m k s).perform s).Going rows (c + 1) := by
  have hr := headRow_going (s := s) (rows := rows) (c := c + 1) m k
  cases e : Machine.headRow m k s with
  | read addr after =>
    rw [e] at hr
    exact hr _ _ (h.readCycle addr)
  | write addr v after =>
    rw [e] at hr
    exact hr _ (h.writeCycle addr v)

/-- The state after `n` cycles of an addressing mode, from the second cycle of an instruction on. -/
def MemMode.headRun (m : MemMode) : Nat → State → State
  | 0, s => s
  | n + 1, s => (headRow m (n + 2) (m.headRun n s)).perform (m.headRun n s)

theorem State.Going.headRun (h : s.Going rows 1) (m : MemMode) (n : Nat) : (m.headRun n s).Going rows (n + 1) := by
  induction n with
  | zero => exact h
  | succ n ih => exact ih.headRow m _

/-- One step before the operand's cycle, after `n` of them. -/
theorem microSteps_headRun_succ (h : s.Going rows 1) (hm : m.Leads forced polls rows) (hn : microSteps n s = m.headRun n s)
    (hlt : n + 2 < operandCycle m forced (m.headRun n s)) :
    microSteps (n + 1) s = (m.headRun (n + 1) s).pollIf
      (polls && decide (n + 3 = operandCycle m forced (m.headRun (n + 1) s))) := by
  rw [microSteps_add, hn]
  show microStep _ = _
  rw [microStep_of_going (h.headRun m n), hm _ _ hlt, Row.perform_andThen]
  rfl

/-- The steps that stop short of the operand's cycle do not poll. -/
theorem microSteps_headRun (h : s.Going rows 1) (hm : m.Leads forced polls rows)
    (hlt : ∀ j ≤ n, j + 2 < operandCycle m forced (m.headRun j s)) : microSteps n s = m.headRun n s := by
  induction n with
  | zero => rfl
  | succ n ih =>
    have hn := hlt (n + 1) le_rfl
    rw [microSteps_headRun_succ h hm (ih fun j hj => hlt j (by omega)) (hlt n (by omega)),
      decide_eq_false (by omega), Bool.and_false, State.pollIf_false]

/-- `n` micro-cycle steps lead from `s`, just after the opcode fetch, to the operand's cycle in `u`: polled there if the row
before that cycle polls, with the operand's address and its base latched. -/
structure State.LeadsTo (rows : Nat → State → Row) (m : MemMode) (forced polls : Bool) (ea base : Word) (s u : State)
    (n : Nat) (f : Scratch → Scratch) : Prop where
  count : n ≤ 4
  steps : microSteps n s = (u.pollIf polls).withScratch f
  going : ((u.pollIf polls).withScratch f).Going rows (n + 1)
  operand : operandCycle m forced ((u.pollIf polls).withScratch f) = n + 2
  ea : (f u.micro.scratch).ea = ea
  base : (f u.micro.scratch).base = base

theorem State.LeadsTo.next {f : Scratch → Scratch} (h : s.LeadsTo rows m forced polls ea base u n f) :
    microSteps (n + 1) s =
      (rows (n + 2) ((u.pollIf polls).withScratch f)).perform ((u.pollIf polls).withScratch f) := by
  rw [microSteps_add, h.steps]
  exact microStep_of_going h.going

theorem exists_leadsTo_of_headRun (h : s.Going rows 1) (hm : m.Leads forced polls rows) (n : Nat) (hn : n ≤ 3)
    (hlt : ∀ j ≤ n, j + 2 < operandCycle m forced (m.headRun j s))
    (heq : operandCycle m forced (m.headRun (n + 1) s) = n + 3)
    (hu : ∃ f, m.headRun (n + 1) s = u.withScratch f)
    (hea : (m.headRun (n + 1) s).micro.scratch.ea = ea) (hbase : (m.headRun (n + 1) s).micro.scratch.base = base) :
    ∃ n f, s.LeadsTo rows m forced polls ea base u n f := by
  have hs := microSteps_headRun_succ h hm (microSteps_headRun h hm hlt) (hlt n le_rfl)
  have hg := (h.headRun m (n + 1)).pollIf polls
  obtain ⟨f, hf⟩ := hu
  rw [heq] at hs
  rw [hf, State.pollIf_withScratch] at hg hs
  rw [hf] at heq hea hbase
  exact ⟨n + 1, f, by omega, by simpa using hs, hg, by rw [← State.pollIf_withScratch, operandCycle_pollIf, heq], hea,
    hbase⟩

/-- The modes whose page crossing takes a cycle more, a dummy read at the unfixed address (R358, R359, R361). -/
theorem exists_leadsTo_of_crossing {index : Byte} (h : s.Going rows 1) (hm : m.Leads forced polls rows) (n : Nat)
    (hn : n ≤ 2) (hop : ∀ t, operandCycle m forced t = if forced || m.crossed t then n + 4 else n + 3)
    (hrow : ∀ t, headRow m (n + 3) t = dummyRow (unfixed t.micro.scratch.base (m.index t)) fun t => t)
    (hu : ∃ f, m.headRun (n + 1) s = u.withScratch f) (hindex : m.index u = index)
    (hea : (m.headRun (n + 1) s).micro.scratch.ea = ea) (hbase : (m.headRun (n + 1) s).micro.scratch.base = base) :
    ∃ n f, s.LeadsTo rows m forced polls ea base
      (if forced || crosses base index then u.readCycle (unfixed base index) else u) n f := by
  have hge (t : State) : n + 3 ≤ operandCycle m forced t := by
    rw [hop]
    split <;> omega
  obtain ⟨f, hf⟩ := hu
  subst hindex hea hbase
  have hc : m.crossed (m.headRun (n + 1) s) = crosses (m.headRun (n + 1) s).micro.scratch.base (m.index u) := by
    simp [MemMode.crossed, hf]
  split
  · next hd =>
    have hnext : m.headRun (n + 2) s =
        (m.headRun (n + 1) s).readCycle (unfixed (m.headRun (n + 1) s).micro.scratch.base (m.index u)) := by
      rw [MemMode.headRun, hrow, hf]
      simp
    have hc' : m.crossed (m.headRun (n + 2) s) = m.crossed (m.headRun (n + 1) s) := by
      simp [hnext, MemMode.crossed]
    refine exists_leadsTo_of_headRun h hm (n + 1) (by omega) (fun j hj => ?_) ?_ ?_
      (congrArg (·.micro.scratch.ea) hnext) (congrArg (·.micro.scratch.base) hnext)
    · obtain rfl | hj := hj.eq_or_lt
      · rw [hop, hc, if_pos hd]
        omega
      · have := hge (m.headRun j s)
        omega
    · rw [hop, hc', hc, if_pos hd]
    · rw [hnext, hf]
      exact ⟨f, rfl⟩
  · next hd =>
    refine exists_leadsTo_of_headRun h hm n (by omega) (fun j hj => ?_) ?_ ⟨f, hf⟩ rfl rfl
    · have := hge (m.headRun j s)
      omega
    · rw [hop, hc, if_neg hd]

/-- The rows of every mode lead to the operand's cycle where the mode's cycles, run whole, stop. -/
theorem exists_leadsTo (hm : m.Leads forced polls rows) (h1 : (s.opcodeCycle op).Going rows 1)
    (hlo : (s.opcodeCycle op).busRead (s.opcodeCycle op).pc = lo)
    (hhi : (s.fetch2 op lo).busRead (s.fetch2 op lo).pc = hi) :
    ∃ n f, (s.opcodeCycle op).LeadsTo rows m forced polls (m.ea op lo hi s) (m.base op lo hi s)
      (m.head forced op lo hi s) n f := by
  simp at hlo hhi
  cases m with
  | zp =>
    refine exists_leadsTo_of_headRun h1 hm 0 (by omega) (fun j hj => by simp [operandCycle]; omega) rfl ?_ ?_ rfl
    · simp [MemMode.headRun, headRow, State.latch_eq, MemMode.head, hlo]
    · simp [MemMode.headRun, headRow, State.latch_eq, MemMode.ea, hlo]
  | zpx | zpy =>
    refine exists_leadsTo_of_headRun h1 hm 1 (by omega) (fun j hj => by simp [operandCycle]; omega) rfl ?_ ?_ rfl
    · simp [MemMode.headRun, headRow, State.latch_eq, MemMode.head, State.headZpIndexed, hlo]
    · simp [MemMode.headRun, headRow, State.latch_eq, MemMode.ea, State.eaZpx, State.eaZpy, hlo]
  | abs =>
    refine exists_leadsTo_of_headRun h1 hm 1 (by omega) (fun j hj => by simp [operandCycle]; omega) rfl ?_ ?_ ?_
    · simp [MemMode.headRun, headRow, State.latch_eq, MemMode.head, hlo, hhi]
    · simp [MemMode.headRun, headRow, State.latch_eq, MemMode.ea, hlo, hhi]
    · simp [MemMode.headRun, headRow, State.latch_eq, MemMode.base, hlo, hhi]
  | izx =>
    refine exists_leadsTo_of_headRun h1 hm 3 (by omega) (fun j hj => by simp [operandCycle]; omega) rfl ?_ ?_ ?_
    · simp [MemMode.headRun, headRow, State.latch_eq, MemMode.head, State.headIzx, State.headZpIndexed, State.izxPtr, hlo]
    · simp [MemMode.headRun, headRow, State.latch_eq, MemMode.ea, State.eaIzx, State.headZpIndexed, State.izxPtr, hlo]
    · simp [MemMode.headRun, headRow, State.latch_eq, MemMode.base, State.eaIzx, State.headZpIndexed, State.izxPtr, hlo]
  | abx | aby =>
    refine exists_leadsTo_of_crossing h1 hm 1 (by omega) (fun _ => rfl) (fun _ => rfl) ?_ rfl ?_ ?_
    · simp [MemMode.headRun, headRow, State.latch_eq, hlo, hhi]
    · simp [MemMode.headRun, headRow, State.latch_eq, MemMode.ea, State.eaAbx, State.eaAby, hlo, hhi]
    · simp [MemMode.headRun, headRow, State.latch_eq, MemMode.base, hlo, hhi]
  | izy =>
    refine exists_leadsTo_of_crossing h1 hm 2 (by omega) (fun _ => rfl) (fun _ => rfl) ?_ rfl ?_ ?_
    · simp [MemMode.headRun, headRow, State.latch_eq, State.headIzy, hlo]
    · simp [MemMode.headRun, headRow, State.latch_eq, MemMode.ea, State.eaIzy, State.baseIzy, hlo]
    · simp [MemMode.headRun, headRow, State.latch_eq, MemMode.base, State.baseIzy, hlo]

/-! ### The rows from the operand's cycle on -/

theorem oneCycleOperand_last {last : Row} (h : operandCycle m forced t = n) : oneCycleOperand m forced last n t = last :=
  if_neg (by omega)

section
variable {result : Byte → State → Byte} {e : Byte → State → State} (h : operandCycle m true t = n)
include h

theorem modifyRow_read : modifyRow m result e n t = .read t.micro.scratch.ea (fun b t => t.latchOperand b) := by
  simp [modifyRow, h]

theorem modifyRow_writeBack :
    modifyRow m result e (n + 1) t = .write t.micro.scratch.ea t.micro.scratch.operand State.poll := by
  simp [modifyRow, h]

theorem modifyRow_writeResult : modifyRow m result e (n + 2) t =
    .write t.micro.scratch.ea (result t.micro.scratch.operand t) (fun u => (e t.micro.scratch.operand u).endInstr) := by
  simp [modifyRow, h]

end

section
variable (s : State) (f : Scratch → Scratch)

theorem State.highStoreOpen_polled : (s.poll.withScratch f).highStoreOpen = s.highStoreOpen := by
  simp [State.highStoreOpen]

theorem State.highStoreAddr_polled (base : Word) (index reg : Byte) :
    (s.poll.withScratch f).highStoreAddr base index reg = s.highStoreAddr base index reg := by
  simp [State.highStoreAddr, State.highStoreHigh, State.highStoreOpen_polled]

theorem State.highStoreValue_polled (base : Word) (reg : Byte) :
    (s.poll.withScratch f).highStoreValue base reg = s.highStoreValue base reg := by
  simp [State.highStoreValue, State.highStoreOpen_polled]

end

/-- The cycles of a mode leave the programmer's registers. -/
@[simp] theorem MemMode.head_regs (m : MemMode) (forced : Bool) (op lo hi : Byte) (s : State) :
    (m.head forced op lo hi s).regs = s.regs := by
  cases m with
  | zp | abs => simp [MemMode.head]
  | zpx | zpy => simp [MemMode.head, State.headZpIndexed]
  | izx => simp [MemMode.head, State.headIzx, State.headZpIndexed]
  | abx | aby =>
    simp only [MemMode.head]
    split <;> simp [State.headAbsFixed]
  | izy =>
    simp only [MemMode.head]
    split <;> simp [State.headIzyFixed, State.headIzy]

section
variable (hlo : (s.opcodeCycle op).busRead (s.opcodeCycle op).pc = lo)
  (hhi : (s.fetch2 op lo).busRead (s.fetch2 op lo).pc = hi)
include hlo hhi

/-- Class R: the operand's read is the last cycle (R353). -/
theorem microSteps_read {e : Byte → State → State} (h1 : (s.opcodeCycle op).Going (instrRow (.read m e)) 1)
    (hb : (Kind.read m e).ByRegs) (ho : (Kind.read m e).OnRegs) :
    ∃ n ≤ 7, microSteps n (s.opcodeCycle op) = s.runKind (.read m e) op lo hi := by
  have he (v : Byte) (t : State) (f : Scratch → Scratch) : e v (t.withScratch f) = (e v t).withScratch f :=
    hb.effect_withScratch ho v t f
  obtain ⟨n, f, hl⟩ := exists_leadsTo (oneCycleOperand_leads m false _) h1 hlo hhi
  refine ⟨n + 1, by linarith [hl.count], ?_⟩
  rw [hl.next, oneCycleOperand_last hl.operand]
  simp [State.runKind, State.readTail, State.pollIf_true, hl.ea, he]

/-- Class W: the write of the value is the last cycle (R353). -/
theorem microSteps_write {value : State → Byte} (h1 : (s.opcodeCycle op).Going (instrRow (.write m value)) 1)
    (hb : (Kind.write m value).ByRegs) :
    ∃ n ≤ 7, microSteps n (s.opcodeCycle op) = s.runKind (.write m value) op lo hi := by
  have hpoll (t : State) : value t.poll = value t := hb.byte_congr t.poll_regs 0
  have hlatch (t : State) (f : Scratch → Scratch) : value (t.withScratch f) = value t :=
    hb.byte_congr (t.withScratch_regs f) 0
  obtain ⟨n, f, hl⟩ := exists_leadsTo (oneCycleOperand_leads m true _) h1 hlo hhi
  refine ⟨n + 1, by linarith [hl.count], ?_⟩
  rw [hl.next, oneCycleOperand_last hl.operand]
  simp [State.runKind, State.writeTail, State.pollIf_true, hl.ea, hpoll, hlatch]

/-- The high-byte stores: the poll before the last cycle changes neither what they store nor where (R372, R616). -/
theorem microSteps_high {reg : State → Byte} {e : State → State}
    (h1 : (s.opcodeCycle op).Going (instrRow (.high m reg e)) 1) (hb : (Kind.high m reg e).ByRegs)
    (ho : (Kind.high m reg e).OnRegs) :
    ∃ n ≤ 7, microSteps n (s.opcodeCycle op) = s.runKind (.high m reg e) op lo hi := by
  have hpoll (t : State) : reg t.poll = reg t := hb.byte_congr t.poll_regs 0
  have hlatch (t : State) (f : Scratch → Scratch) : reg (t.withScratch f) = reg t :=
    hb.byte_congr (t.withScratch_regs f) 0
  have he (t : State) (f : Scratch → Scratch) : e (t.withScratch f) = (e t).withScratch f := hb.effect_withScratch ho 0 t f
  have hindex : m.index (m.head true op lo hi s).poll = m.index s := m.index_congr (by simp)
  obtain ⟨n, f, hl⟩ := exists_leadsTo (oneCycleOperand_leads m true _) h1 hlo hhi
  refine ⟨n + 1, by linarith [hl.count], ?_⟩
  rw [hl.next, oneCycleOperand_last hl.operand]
  simp [State.runKind, State.highStoreTail, State.pollIf_true, hl.base, he, hpoll, hlatch, hindex,
    State.highStoreAddr_polled, State.highStoreValue_polled]

/-- Class M: three cycles from the operand's on, the poll in the second (R354). -/
theorem microSteps_rmw {result : Byte → State → Byte} {e : Byte → State → State}
    (h1 : (s.opcodeCycle op).Going (instrRow (.rmw m result e)) 1) (hb : (Kind.rmw m result e).ByRegs)
    (ho : (Kind.rmw m result e).OnRegs) :
    ∃ n ≤ 7, microSteps n (s.opcodeCycle op) = s.runKind (.rmw m result e) op lo hi := by
  have hlatch (v : Byte) (t : State) (f : Scratch → Scratch) : result v (t.withScratch f) = result v t :=
    hb.byte_congr (t.withScratch_regs f) v
  have he (v : Byte) (t : State) (f : Scratch → Scratch) : e v (t.withScratch f) = (e v t).withScratch f :=
    hb.effect_withScratch ho v t f
  obtain ⟨n, f, hl⟩ := exists_leadsTo (modifyRow_leads m result e) h1 hlo hhi
  have hop (t : State) : operandCycle m true t = n + 2 := (operandCycle_forced m t _).trans hl.operand
  show ∃ n ≤ 7, microSteps n (s.opcodeCycle op) = (m.head true op lo hi s).modifyTail (m.ea op lo hi s) result e
  generalize m.head true op lo hi s = u, m.ea op lo hi s = ea at hl ⊢
  have hread : (u.readCycleAs ea (u.busRead ea)).Going (modifyRow m result e) (n + 2) :=
    ((State.going_withScratch f).mp hl.going).readCycle _
  have hback : ((u.readCycleAs ea (u.busRead ea)).writeCycle ea (u.busRead ea)).poll.Going (modifyRow m result e)
      (n + 3) := (hread.writeCycle _ _).poll
  refine ⟨n + 1 + 2, by linarith [hl.count], ?_⟩
  rw [microSteps_add, hl.next, modifyRow_read (hop _)]
  simp [microSteps, State.pollIf_false, hl.ea, he, hlatch, State.modifyTail, State.latch_eq,
    microStep_of_going ((State.going_withScratch _).mpr hread), modifyRow_writeBack (hop _),
    microStep_of_going ((State.going_withScratch _).mpr hback), modifyRow_writeResult (hop _)]

end

end Sys2Proof.Machine
end

section
/-! PROOFS. The sequences of a fixed length (R350 to R352, R362 to R370, R373, R374), run cycle by cycle from their rows: the
state they end in is the one the sequence run whole describes. -/

namespace Sys2Proof.Machine

variable {s : State}

/-! ### The interrupt and reset sequences -/

theorem microSteps_irqSequence (h : s.Running) (hq : s.micro.seq = .irq) (hc : s.micro.decodeCycle = 0) :
    microSteps 7 s = s.irqSequence := by
  simp [microSteps, h, hq, hc, rowsOf, irqRow, trapRow, vectorRow, State.irqSequence, State.enterInterrupt,
    State.pushPcAndStatus, State.loadVector, State.stackTop, State.latch_eq]

theorem microSteps_resetSequence (h : s.Running) (hq : s.micro.seq = .reset) (hc : s.micro.decodeCycle = 0) :
    microSteps 7 s = s.resetSequence := by
  simp [microSteps, h, hq, hc, rowsOf, resetRow, vectorRow, State.resetSequence, State.suppressedPush, State.loadVector,
    State.stackTop, State.latch_eq]

/-! ### RTI's pull of the flags (R368) -/

/-- The flags are pulled from the status byte `v`. -/
def State.pullFlags (s : State) (v : Byte) : State := { s with p := Flags.unpack v }

section
variable (s : State) (v : Byte)

@[simp] theorem State.running_pullFlags : (s.pullFlags v).Running ↔ s.Running :=
  ⟨fun h => { h with }, fun h => { h with }⟩

@[simp] theorem State.pullFlags_micro : (s.pullFlags v).micro = s.micro := rfl

@[simp] theorem State.pullFlags_pc : (s.pullFlags v).pc = s.pc := rfl

@[simp] theorem State.pullFlags_sp : (s.pullFlags v).sp = s.sp := rfl

@[simp] theorem State.pullFlags_irqLow : (s.pullFlags v).irqLow = s.irqLow := rfl

end

theorem rtiRow_eq (s : State) :
    rtiRow 2 s = dummyRow s.pc (fun t => t) ∧
    rtiRow 3 s = dummyRow s.stackTop State.incSp ∧
    rtiRow 4 s = .read s.stackTop (fun b t => (t.pullFlags b).incSp) ∧
    rtiRow 5 s = .read s.stackTop (fun b t => (t.latchLo b).incSp.poll) ∧
    rtiRow 6 s = .read s.stackTop (fun b t => (t.setPc (mkWord b t.micro.scratch.lo)).endInstr) :=
  ⟨rfl, rfl, rfl, rfl, rfl⟩

theorem State.returnFromInterrupt_eq (s : State) : s.returnFromInterrupt =
    let s3 := (s.readCycle s.stackTop).incSp
    let s4 := ((s3.readCycle s3.stackTop).pullFlags (s3.busRead s3.stackTop)).incSp
    let s5 := (s4.readCycle s4.stackTop).incSp.poll
    ((s5.readCycle s5.stackTop).setPc (mkWord (s5.busRead s5.stackTop) (s4.busRead s4.stackTop))).endInstr := rfl

/-! ### JSR's last fetch (R366) -/

theorem Memory.read_write_of_ne (m : Memory) {addr a : Nat} (v : Byte) (h : addr ≠ a) :
    (m.write addr v).read a = m.read a := by
  induction m with
  | nil =>
    unfold Memory.write
    split <;> simp [Memory.read, h]
  | cons cell rest ih =>
    unfold Memory.write
    split_ifs <;> simp +contextual [Memory.read, h, ih] <;> rintro rfl <;> contradiction

theorem State.read_stored_of_ne (s : State) {addr a : Word} (v : Byte) (h : a ≠ addr) :
    (s.stored addr v).read a.toNat = s.mem.read a.toNat := by
  unfold State.stored
  split
  · rfl
  · split
    · exact Memory.read_write_of_ne _ v fun e => h (BitVec.eq_of_toNat_eq e.symm)
    · rfl

theorem State.busRead_withMem {t : State} {m : Memory} {a : Word} (h : m.read a.toNat = t.mem.read a.toNat) :
    { t with mem := m }.busRead a = t.busRead a := by
  show (if t.aecLow then _ else match t.regionAt a with | .external => _ | _ => m.read a.toNat) = _
  rw [h]
  unfold State.busRead
  rfl

@[simp] theorem State.headJsr_pc (s : State) (op lo : Byte) : (s.headJsr op lo).pc = s.pc + 2 := by
  simp [State.headJsr, BitVec.add_assoc]

theorem State.headJsr_read (s : State) (op lo : Byte) {a : Word} (h1 : a ≠ stackAddr s.sp)
    (h2 : a ≠ stackAddr (s.sp - 1)) : (s.headJsr op lo).mem.read a.toNat = s.mem.read a.toNat := by
  have h2' : a ≠ stackAddr (s.sp - 1#8) := h2
  simp [State.headJsr, State.stackTop, State.read_stored_of_ne, h1, h2']

/-- JSR's last cycle fetches the third byte that decoding took, unless one of its pushes has replaced it. -/
theorem jsrHigh_thirdByte (s : State) {op : Byte} (lo : Byte) (hop : op = 0x20) :
    jsrHigh s (s.headJsr op lo) (s.thirdByte op lo) = (s.headJsr op lo).busRead (s.pc + 2) := by
  unfold jsrHigh State.thirdByte
  simp only [State.headJsr_pc, if_pos hop]
  split
  · rfl
  · next h =>
    obtain ⟨h1, h2⟩ := not_or.mp h
    exact State.busRead_withMem (s.headJsr_read op lo h1 h2).symm

/-- The kind of JSR, whose third byte is not fetched in its third cycle. -/
def Kind.isJsr : Kind → Bool
  | .jsr => true
  | _ => false

theorem isJsr_kindOf (op : Byte) : (kindOf op).isJsr = decide (op = 0x20) := by
  obtain ⟨n⟩ := op
  fin_cases n
  all_goals rfl

/-- The third fetch of an instruction other than JSR is its third cycle. -/
theorem State.busRead_fetch2 {op lo hi : Byte} (hhi : s.thirdByte op lo = hi) (hj : (kindOf op).isJsr = false) :
    (s.fetch2 op lo).busRead (s.pc + 2) = hi := by
  rw [isJsr_kindOf] at hj
  rwa [State.thirdByte, if_neg (of_decide_eq_false hj)] at hhi

/-! ### The instructions without an operand in memory, after the opcode fetch -/

section
variable {op lo hi : Byte} (h : ((s.readCycleAs s.pc op).latchOpcode op).Running)
include h

theorem microSteps_implied {e : State → State} (hk : kindOf op = .implied e) :
    microSteps 1 (s.opcodeCycle op).poll = implied op e s := by
  simp [microSteps, h, hk, rowsOf, instrRow, implied]

theorem microSteps_accumulator {result : Byte → State → Byte} {e : Byte → State → State}
    (hk : kindOf op = .acc result e) : microSteps 1 (s.opcodeCycle op).poll = accumulator op result e s := by
  simp [microSteps, h, hk, rowsOf, instrRow, accumulator, implied]

theorem microSteps_push {value : State → Byte} (hk : kindOf op = .push value) :
    microSteps 2 (s.opcodeCycle op) = push op value s := by
  have hv (t : State) (ht : t.regs = s.regs) : value t = value s :=
    (hk ▸ kindOf_byRegs op : (Kind.push value).ByRegs).byte_congr ht 0
  simp [microSteps, h, hk, rowsOf, instrRow, pushRow, push, State.stackTop, hv]

theorem microSteps_pull {e : Byte → State → State} (hk : kindOf op = .pull e) :
    microSteps 3 (s.opcodeCycle op) = pull op e s := by
  simp [microSteps, h, hk, rowsOf, instrRow, pullRow, pull, State.stackTop]

theorem microSteps_rts (hk : kindOf op = .rts) : microSteps 5 (s.opcodeCycle op) = rts op s := by
  simp [microSteps, h, hk, rowsOf, instrRow, rtsRow, rts, State.stackTop, State.latch_eq]

theorem microSteps_rti (hk : kindOf op = .rti) : microSteps 5 (s.opcodeCycle op) = rti op s := by
  simp [microSteps, h, hk, rowsOf, instrRow, rtiRow_eq, rti, State.returnFromInterrupt_eq, State.stackTop,
    State.latch_eq]

theorem microSteps_jsr (hk : kindOf op = .jsr) (hlo : (s.opcodeCycle op).busRead (s.pc + 1) = lo)
    (hhi : s.thirdByte op lo = hi) : microSteps 5 (s.opcodeCycle op) = jsr op (mkWord hi lo) s := by
  have hop : op = 0x20 := by simpa [hk, Kind.isJsr] using isJsr_kindOf op
  subst hlo hhi
  simp only [jsr, hiByte_mkWord, loByte_mkWord, jsrHigh_thirdByte s _ hop, State.headJsr_pc]
  simp [microSteps, h, hk, rowsOf, instrRow, jsrRow, State.headJsr, State.stackTop, BitVec.add_assoc, State.latch_eq]

variable (hlo : (s.opcodeCycle op).busRead (s.pc + 1) = lo)
include hlo

theorem microSteps_immediate {e : Byte → State → State} (hk : kindOf op = .imm e) :
    microSteps 1 (s.opcodeCycle op).poll = immediate op lo e s := by
  subst hlo
  simp [microSteps, h, hk, rowsOf, instrRow, immediate]

theorem microSteps_brk (hk : kindOf op = .brk) : microSteps 6 (s.opcodeCycle op) = breakSeq op lo s := by
  subst hlo
  simp [microSteps, h, hk, rowsOf, instrRow, brkRow, trapRow, vectorRow, breakSeq, State.enterInterrupt,
    State.pushPcAndStatus, State.loadVector, State.stackTop, State.latch_eq]

/-- A branch takes two, three or four cycles: not taken, taken within its page, taken across a page (R362). -/
theorem microSteps_branch {cond : Flags → Bool} (hk : kindOf op = .branch cond) :
    ∃ n ≤ 3, microSteps n (s.opcodeCycle op).poll = branch op lo cond s := by
  subst hlo
  have htarget : branchTarget s ((s.opcodeCycle op).busRead (s.pc + 1)) =
      ((s.opcodeCycle op).poll.fetchCycle ((s.opcodeCycle op).busRead (s.pc + 1))).pc +
        sext16 ((s.opcodeCycle op).busRead (s.pc + 1)) := by
    simp [branchTarget, BitVec.add_assoc]
  unfold branch
  dsimp only
  rw [htarget]
  split
  · next hc =>
    split
    · next hp =>
      simp at hc hp
      exact ⟨2, by omega, by simp [microSteps, h, hk, rowsOf, instrRow, branchRow, hc, hp, State.latch_eq]⟩
    · next hp =>
      simp at hc hp
      exact ⟨3, by omega, by simp [microSteps, h, hk, rowsOf, instrRow, branchRow, hc, hp, State.latch_eq]⟩
  · next hc =>
    simp at hc
    exact ⟨1, by omega, by simp [microSteps, h, hk, rowsOf, instrRow, branchRow, hc]⟩

variable (hhi : (s.fetch2 op lo).busRead (s.pc + 2) = hi)
include hhi

theorem microSteps_jmpAbs (hk : kindOf op = .jmpAbs) :
    microSteps 2 (s.opcodeCycle op) = jmpAbsolute op (mkWord hi lo) s := by
  subst hlo hhi
  simp [microSteps, h, hk, rowsOf, instrRow, jmpAbsRow, jmpAbsolute, BitVec.add_assoc, State.latch_eq]

theorem microSteps_jmpInd (hk : kindOf op = .jmpInd) :
    microSteps 4 (s.opcodeCycle op) = jmpIndirect op (mkWord hi lo) s := by
  subst hlo hhi
  simp [microSteps, h, hk, rowsOf, instrRow, jmpIndRow, jmpIndirect, BitVec.add_assoc, State.latch_eq]

end

end Sys2Proof.Machine
end

section
/-! PROOFS. A step of the model is one to eight micro-cycle steps (R300, R303, R304): an instruction is its opcode fetch and
the rows of its kind, and the checks before a step are the same at both levels. -/

namespace Sys2Proof.Machine

variable {s t u : State} {op lo hi : Byte}

/-! ### One instruction -/

/-- The cycles of an instruction after its opcode fetch leave what the instruction, run whole, leaves (R303, R304). -/
theorem microSteps_afterOpcode (h : (s.opcodeCycle op).Running) (hlo : (s.opcodeCycle op).busRead (s.pc + 1) = lo)
    (hhi : s.thirdByte op lo = hi) :
    ∃ n ≤ 7, microSteps n (afterOpcode op (s.opcodeCycle op)) = s.runKind (kindOf op) op lo hi := by
  have h1 : (s.opcodeCycle op).Going (instrRow (kindOf op)) 1 := ⟨h, rfl, rfl⟩
  have hthird := State.busRead_fetch2 hhi
  have hpc : (s.fetch2 op lo).pc = s.pc + 2 := by simp [BitVec.add_assoc]
  have hb := kindOf_byRegs op
  have ho := kindOf_onRegs op
  unfold afterOpcode
  cases hk : kindOf op with rw [hk] at h1 hthird hb ho
  | jam => exact ⟨0, by omega, rfl⟩
  | implied e => exact ⟨1, by omega, microSteps_implied h hk⟩
  | acc result e => exact ⟨1, by omega, microSteps_accumulator h hk⟩
  | imm e => exact ⟨1, by omega, microSteps_immediate h hlo hk⟩
  | read m e => exact microSteps_read hlo (hpc ▸ hthird rfl) h1 hb ho
  | write m value => exact microSteps_write hlo (hpc ▸ hthird rfl) h1 hb
  | rmw m result e => exact microSteps_rmw hlo (hpc ▸ hthird rfl) h1 hb ho
  | high m reg e => exact microSteps_high hlo (hpc ▸ hthird rfl) h1 hb ho
  | branch cond =>
    obtain ⟨n, hn, e⟩ := microSteps_branch h hlo hk
    exact ⟨n, by omega, e⟩
  | push value => exact ⟨2, by omega, microSteps_push h hk⟩
  | pull e => exact ⟨3, by omega, microSteps_pull h hk⟩
  | jmpAbs => exact ⟨2, by omega, microSteps_jmpAbs h hlo (hthird rfl) hk⟩
  | jmpInd => exact ⟨4, by omega, microSteps_jmpInd h hlo (hthird rfl) hk⟩
  | jsr => exact ⟨5, by omega, microSteps_jsr h hk hlo hhi⟩
  | rts => exact ⟨5, by omega, microSteps_rts h hk⟩
  | rti => exact ⟨5, by omega, microSteps_rti h hk⟩
  | brk => exact ⟨6, by omega, microSteps_brk h hlo hk⟩

/-- An instruction runs as the kind of the opcode it fetches, with the two bytes after it. -/
theorem State.runInstruction_eq (s : State) (hop : s.busRead s.pc = op)
    (hlo : (s.opcodeCycle op).busRead (s.pc + 1) = lo) :
    s.runInstruction = .next (s.runKind (kindOf op) op lo (s.thirdByte op lo)) := by
  subst hop hlo
  obtain ⟨e, he, hexec⟩ := exec_entry (s.busRead s.pc)
  unfold State.runInstruction State.fetchBytes
  rw [← hexec]
  cases e <;> simp [decode, he, Entry.instr]

/-! ### The checks at the start of a step, and what comes next -/

/-- The checks let a step run only with RESET high and no jam. -/
theorem State.prelude_run_free (h : s.prelude = .run t) :
    t.resetLow = false ∧ t.resetHeld = false ∧ t.jammed = false := by
  have hreset : t.resetLow = s.resetLow := by
    obtain ⟨held, pending, jam, irq, micro, rfl⟩ := s.prelude_frame (.inr h)
    rfl
  unfold State.prelude at h
  split at h
  · cases h
  · next hr =>
    rw [hreset]
    dsimp only at h
    split_ifs at h <;> injection h with h <;> subst h <;> simp_all [State.startReset, State.startIrq]

/-- When each thing comes next (R300, R310). -/
def State.Awaits (s : State) : Upcoming → Prop
  | .stall => s.microCycle = s.stallCycle
  | .instruction => s.micro.stage = .opcode ∧ s.rdyLow = false
  | .irqSequence => s.micro.stage ≠ .opcode ∧ s.micro.seq = .irq ∧ s.micro.decodeCycle = 0 ∧ s.rdyLow = false
  | .resetSequence => s.micro.stage ≠ .opcode ∧ s.micro.seq = .reset ∧ s.micro.decodeCycle = 0 ∧ s.rdyLow = false
  | .cycle => True

/-- With RDY low a read cycle stalls (R310). -/
theorem State.microCycle_of_read {addr : Word} {after : Byte → State → State} (hr : s.currentRow = .read addr after)
    (h : s.rdyLow = true) : s.microCycle = s.stallCycle := by
  unfold State.microCycle
  rw [hr]
  exact if_pos h

theorem State.awaits_upcoming (s : State) : s.Awaits s.upcoming := by
  unfold State.upcoming
  split
  · next hstage =>
    split
    · next hrdy =>
      exact State.microCycle_of_read (show s.currentRow = opcodeRow s by rw [State.currentRow, hstage]) hrdy
    · next hrdy => exact ⟨hstage, by simpa using hrdy⟩
  · next hseq hcycle hstage =>
    split
    · next hrdy =>
      refine State.microCycle_of_read (show s.currentRow = irqRow 1 s from ?_) hrdy
      rw [State.currentRow_inside hstage, hseq, hcycle]
      rfl
    · next hrdy => exact ⟨hstage, hseq, hcycle, by simpa using hrdy⟩
  · next hseq hcycle hstage =>
    split
    · next hrdy =>
      refine State.microCycle_of_read (show s.currentRow = resetRow 1 s from ?_) hrdy
      rw [State.currentRow_inside hstage, hseq, hcycle]
      rfl
    · next hrdy => exact ⟨hstage, hseq, hcycle, by simpa using hrdy⟩
  · trivial

/-! ### Whole sequences -/

theorem step_of_idle (h : s.prelude = .idle t) : step s = .next t.idleCycle := by simp [step, h]

theorem microStep_of_idle (h : s.prelude = .idle t) : microStep s = t.idleCycle := by simp [microStep, h]

theorem microStep_of_run (h : s.prelude = .run t) : microStep s = t.microCycle := by simp [microStep, h]

/-- The checks of the first step of a sequence lead to the state from which its rows run. -/
theorem microSteps_of_run (h : s.prelude = .run t) (ht : t.Running) (n : Nat) :
    microSteps (n + 1) s = microSteps (n + 1) t := by
  have e : microStep t = t.microCycle := by
    rw [microStep_of_run (t.prelude_inside ht.resetHigh ht.notJammed ht.stage), State.release_eq ht.notHeld]
  rw [microSteps, microSteps, microStep_of_run h, e]

theorem exists_microSteps_of_instruction (h : s.prelude = .run t) (hstage : t.micro.stage = .opcode)
    (hrdy : t.rdyLow = false) (hu : t.runInstruction = .next u) : ∃ n, 1 ≤ n ∧ n ≤ 8 ∧ microSteps n s = u := by
  obtain ⟨hreset, hheld, hjam⟩ := State.prelude_run_free h
  have hrun : (t.opcodeCycle (t.busRead t.pc)).Running := ⟨by simpa, by simpa, by simpa, by simpa, by simp⟩
  obtain ⟨n, hn, e⟩ := microSteps_afterOpcode hrun rfl rfl
  rw [State.runInstruction_eq t rfl rfl, ← e] at hu
  injection hu with hu
  refine ⟨n + 1, by omega, by omega, ?_⟩
  rw [← hu, microSteps, microStep_of_run h, State.microCycle_ready hrdy, State.currentRow, hstage]
  rfl

/-- A step that the checks let run is one to eight micro-cycle steps. -/
theorem exists_microSteps_of_run (h : s.prelude = .run t) (hs : step s = .next u) :
    ∃ n, 1 ≤ n ∧ n ≤ 8 ∧ microSteps n s = u := by
  have hone : microSteps 1 s = t.microCycle := microStep_of_run h
  obtain ⟨hreset, hheld, hjam⟩ := State.prelude_run_free h
  have hup := t.awaits_upcoming
  unfold step at hs
  rw [h] at hs
  dsimp only at hs
  cases e : t.upcoming <;> rw [e] at hs hup
  case instruction => exact exists_microSteps_of_instruction h hup.1 hup.2 hs
  all_goals cases hs
  case stall => exact ⟨1, by omega, by omega, hone.trans hup⟩
  case cycle => exact ⟨1, by omega, by omega, hone⟩
  case irqSequence =>
    obtain ⟨hstage, hseq, hcycle, hrdy⟩ := hup
    have hrun : t.Running := ⟨hreset, hrdy, hheld, hjam, hstage⟩
    exact ⟨7, by omega, by omega, (microSteps_of_run h hrun 6).trans (microSteps_irqSequence hrun hseq hcycle)⟩
  case resetSequence =>
    obtain ⟨hstage, hseq, hcycle, hrdy⟩ := hup
    have hrun : t.Running := ⟨hreset, hrdy, hheld, hjam, hstage⟩
    exact ⟨7, by omega, by omega, (microSteps_of_run h hrun 6).trans (microSteps_resetSequence hrun hseq hcycle)⟩

/-- Settles O8: the two levels share the checks before a step, and what comes next is, row by row, the sequence run whole. -/
theorem stepIsWholeMicroSteps : Obligations.StepIsWholeMicroSteps := by
  intro s t hs
  cases hp : s.prelude with
  | idle u =>
    have hidle : u.idleCycle = t := Host.Outcome.next.inj ((step_of_idle hp).symm.trans hs)
    exact ⟨1, by omega, by omega, (microStep_of_idle hp).trans hidle⟩
  | run u => exact exists_microSteps_of_run hp hs

/-! ### Power-on -/

/-- The core as created, with its control pins driven high (R91). -/
def State.poweredOn : State :=
  { State.powerOn with net := { Net.powerOn with cpu :=
    { CpuPins.powerOn with reset := .high, irq := .high, aec := .high, rdy := .high } } }

/-- Settles O15: the first step finds a pending reset, and the rest of the seven are the reset sequence. -/
theorem powerOnReachesReset : Obligations.PowerOnReachesReset := by
  have hrun : State.poweredOn.prelude = .run { State.poweredOn with resetHeld := false }.startReset :=
    State.poweredOn.prelude_reset rfl rfl rfl rfl
  have hstart : { State.poweredOn with resetHeld := false }.startReset.Running := ⟨rfl, rfl, rfl, rfl, nofun⟩
  show microSteps 7 State.poweredOn = State.reset
  rw [microSteps_of_run hrun hstart, microSteps_resetSequence hstart rfl rfl]
  rfl

end Sys2Proof.Machine
end

section
/-! PROOFS. The polls of IRQ (R320 to R322): what the latch holds at the end of an instruction. -/

namespace Sys2Proof.Machine

variable {s t u v : State} {k : Kind}

theorem State.poll_irqPending (h : s.params.irqPollRule = .hardware) : s.poll.irqPending = s.irqSeen := by
  unfold State.poll
  rw [h]

/-! ### What decides a poll, and what the latch holds since -/

/-- What the latch is to hold just before the end of a sequence whose poll finds `b`: `BOUNDARY` asks nothing of it there. -/
def Params.latched (p : Params) (b : Bool) : Bool :=
  match p.irqPollRule with
  | .hardware => b
  | .boundary => false

/-- What decides a poll, and what it latches (R320). -/
def State.pollView (s : State) : Params × Bool × Bool := (s.params, s.irqLow, s.params.latched s.irqSeen)

/-- The same view of a state after its poll: of what the latch holds. -/
def State.latchView (s : State) : Params × Bool × Bool := (s.params, s.irqLow, s.params.latched s.irqPending)

section
variable (s : State)

@[simp] theorem State.poll_latchView : s.poll.latchView = s.pollView := by
  unfold State.latchView State.pollView Params.latched
  cases h : s.params.irqPollRule with
  | hardware => simp [h, State.poll_irqPending]
  | boundary => simp [h]

@[simp] theorem State.readCycleAs_latchView (addr : Word) (b : Byte) : (s.readCycleAs addr b).latchView = s.latchView := by
  simp [State.latchView]

@[simp] theorem State.writeCycle_latchView (addr : Word) (b : Byte) : (s.writeCycle addr b).latchView = s.latchView := by
  simp [State.latchView]

@[simp] theorem State.incPc_latchView : s.incPc.latchView = s.latchView := rfl

@[simp] theorem State.setPc_latchView (w : Word) : (s.setPc w).latchView = s.latchView := rfl

@[simp] theorem State.decSp_latchView : s.decSp.latchView = s.latchView := rfl

@[simp] theorem State.incSp_latchView : s.incSp.latchView = s.latchView := rfl

@[simp] theorem State.readCycleAs_pollView (addr : Word) (b : Byte) : (s.readCycleAs addr b).pollView = s.pollView := by
  simp [State.pollView, State.irqSeen]

@[simp] theorem State.writeCycle_pollView (addr : Word) (b : Byte) : (s.writeCycle addr b).pollView = s.pollView := by
  simp [State.pollView, State.irqSeen]

@[simp] theorem State.poll_pollView : s.poll.pollView = s.pollView := by simp [State.pollView, State.irqSeen]

@[simp] theorem State.latchOpcode_pollView (op : Byte) : (s.latchOpcode op).pollView = s.pollView := rfl

@[simp] theorem State.incPc_pollView : s.incPc.pollView = s.pollView := rfl

@[simp] theorem State.setPc_pollView (w : Word) : (s.setPc w).pollView = s.pollView := rfl

@[simp] theorem State.decSp_pollView : s.decSp.pollView = s.pollView := rfl

@[simp] theorem State.incSp_pollView : s.incSp.pollView = s.pollView := rfl

end

/-- An operation on registers leaves the latch as it is. -/
theorem Kind.OnRegs.latchView (hk : k.OnRegs) (b : Byte) (u : State) : (k.effect b u).latchView = u.latchView := by
  rw [hk b u]
  rfl

/-- A poll finds the same, if only transactions came since and I is as it was. -/
theorem After.pollView {bus : List Bus} (h : After s u bus) (hr : u.regs = s.regs) : u.pollView = s.pollView := by
  have hi : u.p = s.p := congrArg Regs.p hr
  have hl : u.irqLow = s.irqLow := by simp [State.irqLow, h.outside.controlPins.2.1]
  simp [State.pollView, State.irqSeen, hi, hl, h.outside.params]

theorem State.Heads.pollView (h : s.Heads u) : u.pollView = s.pollView := by
  obtain ⟨bus, hu, -⟩ := h.exists_after
  exact hu.pollView h.regs

/-! ### The instructions -/

/-- `t` is at the end of an instruction that `HARDWARE` polls in `s`, and `BOUNDARY` in `t` itself (R321, R322). -/
structure State.Polls (s t : State) : Prop where
  hardware : s.params.irqPollRule = .hardware → t.irqPending = s.irqSeen
  boundary : s.params.irqPollRule = .boundary → t.irqPending = (s.irqLow && !t.p.i)

theorem State.Polls.endInstr (h : v.latchView = s.pollView) : s.Polls v.endInstr := by
  simp only [State.latchView, State.pollView, Prod.mk.injEq] at h
  obtain ⟨hparams, hirq, hlatch⟩ := h
  unfold State.endInstr
  constructor <;> intro hrule <;> rw [hparams, hrule]
  · simpa [Params.latched, hparams, hrule] using hlatch
  · simp [State.irqSeen, hirq]

theorem branch_polls (s : State) (op offset : Byte) (cond : Flags → Bool) : s.Polls (branch op offset cond s) := by
  unfold branch
  dsimp only
  split
  · split <;> exact .endInstr (by simp)
  · exact .endInstr (by simp)

/-- The kind of BRK, which clears the latch (R321, R322). -/
def Kind.isBrk : Kind → Bool
  | .brk => true
  | _ => false

/-- The kind of RTI, which polls after it has pulled I (R321). -/
def Kind.isRti : Kind → Bool
  | .rti => true
  | _ => false

theorem kindOf_isBrk (i : Instr) {op : Byte} (h : (encode i).head? = some op) :
    (kindOf op).isBrk = decide (i.mnemonic = "BRK") := by
  cases i <;> (cases h; rfl)

theorem kindOf_isRti (i : Instr) {op : Byte} (h : (encode i).head? = some op) :
    (kindOf op).isRti = decide (i.mnemonic = "RTI") := by
  cases i <;> (cases h; rfl)

/-- The other kinds poll with I as before the instruction: the poll precedes their operation. -/
theorem Performs.polls (ht : Performs s k t) (hk : k.OnRegs) (hj : k.isJam = false) (hb : k.isBrk = false)
    (hr : k.isRti = false) : s.Polls t := by
  have he := hk.latchView
  cases ht with
  | implied | acc => exact .endInstr ((he 0 _).trans (by simp))
  | imm => exact .endInstr ((he _ _).trans (by simp))
  | read hu => exact .endInstr ((he _ _).trans (.trans (by simp) hu.pollView))
  | write hu => exact .endInstr (.trans (by simp) hu.pollView)
  | rmw hu => exact .endInstr ((he _ _).trans (.trans (by simp) hu.pollView))
  | high hu => exact .endInstr ((he 0 _).trans (.trans (by simp) hu.pollView))
  | branch => exact branch_polls s _ _ _
  | pull => exact .endInstr ((he _ _).trans (by simp))
  | jsr => exact .endInstr (by simp [State.headJsr])
  | push | jmpAbs | jmpInd | rts => exact .endInstr (by simp)
  | rti => cases hr
  | brk => cases hb
  | jam => cases hj

/-- The poll of BRK and of the interrupt and reset sequences finds I set; under `BOUNDARY` their end clears the latch. -/
theorem State.loadVector_irqPending (s : State) (lo hi : Word) : (s.loadVector lo hi).irqPending = false := by
  unfold State.loadVector State.endTrap
  dsimp only
  split
  · next h =>
    have hrule : (s.readCycle lo).setI.params.irqPollRule = .hardware := by simpa using h
    have hseen : (s.readCycle lo).setI.irqSeen = false := by simp [State.irqSeen, State.setI]
    simpa using (State.poll_irqPending hrule).trans hseen
  · rfl

/-- The last cycle of RTI (R368), after the poll in `u`. -/
theorem State.polls_return (u : State) (addr w : Word) : u.Polls ((u.poll.readCycle addr).setPc w).endInstr :=
  .endInstr (by simp)

theorem State.Polls.irqPending (h : u.Polls t) (hl : u.irqLow = s.irqLow) (hp : t.p = u.p) :
    t.irqPending = (s.irqLow && !t.p.i) := by
  cases hr : u.params.irqPollRule with
  | hardware => rw [h.hardware hr, State.irqSeen, hl, hp]
  | boundary => rw [h.boundary hr, hl]

/-- RTI is polled with the I it pulls, under either rule. -/
theorem rti_irqPending (s : State) (op : Byte) : (rti op s).irqPending = (s.irqLow && !(rti op s).p.i) := by
  rw [rti, State.returnFromInterrupt_eq]
  exact (State.polls_return _ _ _).irqPending (by simp) (by simp)

/-- Settles O20: BRK and RTI have polls of their own; every other instruction but JAM polls before its operation. -/
theorem pollsOfInstructions : Obligations.PollsOfInstructions := by
  intro s t i h hn
  obtain ⟨op, u, hop, hu, hp⟩ := exec_performs i s
  cases hu.symm.trans h
  have hb := kindOf_isBrk i hop
  have hr := kindOf_isRti i hop
  have hj := kindOf_isJam_of_mnemonic_ne i hop hn
  have ho := kindOf_onRegs op
  cases hk : kindOf op with rw [hk] at hp hb hr hj ho
  | brk =>
    cases hp
    simp [breakSeq, State.enterInterrupt, State.loadVector_irqPending, of_decide_eq_true hb.symm]
  | rti =>
    cases hp
    simp [rti_irqPending, of_decide_eq_true hr.symm]
  | _ =>
    obtain ⟨hhardware, hboundary⟩ := hp.polls ho hj rfl rfl
    simp only [if_neg (of_decide_eq_false hb.symm), if_neg (of_decide_eq_false hr.symm)]
    exact ⟨hhardware, hboundary⟩

end Sys2Proof.Machine
end

section
/-! PROOFS. Steps that begin with the checks alone: RESET low (R308), a jammed CPU (R313), the fetch of an instruction (R300,
R306), and the cycles of a branch with the latch of IRQ (R321, R362). -/

namespace Sys2Proof.Machine

variable {s t u : State} {op : Byte}

/-! ### The idle steps -/

/-- An idle step leaves the level of the address pins. -/
theorem CpuPins.afterIdle_addr (p : CpuPins) : p.afterIdle.addr = p.addr := by
  unfold CpuPins.afterIdle
  split <;> rfl

/-- Settles O13: the step at both levels is the idle cycle of `holdReset`, which drives the pins only. -/
theorem resetHeldStepIsIdle : Obligations.ResetHeldStepIsIdle := by
  intro s h
  have hp := s.prelude_held (by simp [State.resetLow, h])
  refine ⟨_, step_of_idle hp, microStep_of_idle hp, rfl, rfl, rfl, rfl, rfl, rfl, rfl, rfl, rfl, rfl, rfl, rfl, rfl, rfl,
    rfl, rfl, s.net.cpu.afterIdle_addr, fun haec => ?_⟩
  show s.net.cpu.afterIdle.dataDir = _ ∧ s.net.cpu.afterIdle.rw = _
  rw [CpuPins.afterIdle_high haec]
  exact ⟨rfl, rfl⟩

/-- Settles O17: the step at both levels is idle, whatever the latch holds. -/
theorem jammedStepIsIdle : Obligations.JammedStepIsIdle := by
  intro s h hj hp
  have hidle := s.prelude_jammed (by simp [State.resetLow, h]) hp hj
  exact ⟨_, step_of_idle hidle, microStep_of_idle hidle, hj, by simp [State.isHalted, hj], rfl, rfl, rfl, rfl, rfl, rfl,
    rfl, rfl, rfl, rfl⟩

/-! ### The fetch of an instruction -/

/-- The state of a step that finds RESET high (R300). -/
def State.release (s : State) : State := { s with resetHeld := false }

section
variable (s : State)

@[simp] theorem State.release_pc : s.release.pc = s.pc := rfl

@[simp] theorem State.release_p : s.release.p = s.p := rfl

@[simp] theorem State.release_micro : s.release.micro = s.micro := rfl

@[simp] theorem State.release_params : s.release.params = s.params := rfl

@[simp] theorem State.release_irqPending : s.release.irqPending = s.irqPending := rfl

@[simp] theorem State.release_irqLow : s.release.irqLow = s.irqLow := rfl

@[simp] theorem State.release_busRead (a : Word) : s.release.busRead a = s.busRead a := rfl

theorem State.release_stackTop : s.release.stackTop = s.stackTop := rfl

theorem State.release_opcodeCycle (op : Byte) : s.release.opcodeCycle op = (s.opcodeCycle op).release := rfl

theorem State.release_fetch2 (op b : Byte) : s.release.fetch2 op b = (s.fetch2 op b).release := rfl

theorem State.release_readCycle (a : Word) : s.release.readCycle a = (s.readCycle a).release := rfl

theorem State.release_pushCycle (b : Byte) : s.release.pushCycle b = (s.pushCycle b).release := rfl

theorem State.release_poll : s.release.poll = s.poll.release := by
  unfold State.poll State.release
  dsimp only
  split <;> rfl

theorem State.release_headJsr (op lo : Byte) : s.release.headJsr op lo = (s.headJsr op lo).release := by
  simp only [State.headJsr, State.release_fetch2, State.release_stackTop, State.release_readCycle, State.release_pc,
    State.release_pushCycle, State.release_poll]

theorem State.release_thirdByte (op b : Byte) : s.release.thirdByte op b = s.thirdByte op b := by
  unfold State.thirdByte
  split
  · rw [State.release_headJsr]
    exact State.release_busRead { s.headJsr op b with mem := s.mem } _
  · exact State.release_busRead (s.fetch2 op b) _

/-- An instruction's bytes do not depend on whether RESET was held before it. -/
theorem State.release_fetchBytes : s.release.fetchBytes = s.fetchBytes := by
  simp only [State.fetchBytes, State.release_pc, State.release_busRead, State.release_opcodeCycle,
    State.release_thirdByte]

end

/-- Settles O5: the step from a ready state runs what the fetched bytes decode to. -/
theorem stepRunsTheDecodedInstruction : Obligations.StepRunsTheDecodedInstruction := by
  intro s i rest h hd
  have hf : { s with resetHeld := false }.fetchBytes = s.fetchBytes := s.release_fetchBytes
  rw [h.step_eq, State.runInstruction, hf, hd]

/-! ### The cycles of a branch -/

theorem State.endInstr_irqPending (h : s.params.irqPollRule = .hardware) : s.endInstr.irqPending = s.irqPending := by
  unfold State.endInstr
  rw [h]
  rfl

/-- The kind of the conditional branches. -/
def Kind.isBranch : Kind → Bool
  | .branch _ => true
  | _ => false

theorem isBranch_kindOf (op : Byte) : (kindOf op).isBranch = decide (op &&& 0x1F = 0x10) := by
  obtain ⟨n⟩ := op
  fin_cases n
  all_goals rfl

theorem exists_kindOf_branch (h : op &&& 0x1F = 0x10) : ∃ cond, kindOf op = .branch cond := by
  have hb := isBranch_kindOf op
  rw [decide_eq_true h] at hb
  cases hk : kindOf op with rw [hk] at hb
  | branch cond => exact ⟨cond, rfl⟩
  | _ => cases hb

/-- The opcode fetch of a branch polls (R321). -/
theorem microStep_branch_fetch (h : s.Ready) (hop : s.busRead s.pc &&& 0x1F = 0x10) :
    microStep s = (s.release.opcodeCycle (s.busRead s.pc)).poll := by
  obtain ⟨cond, hk⟩ := exists_kindOf_branch hop
  rw [microStep_of_run (s.prelude_ready h), State.microCycle_ready (by simp [State.rdyLow, h.rdyHigh])]
  simp only [State.currentRow, h.stage, opcodeRow, Row.perform_read]
  show afterOpcode (s.busRead s.pc) _ = _
  rw [afterOpcode, hk]
  rfl

/-- A later cycle of a branch performs its next row (R362). -/
theorem microStep_branch_inside (hreset : s.resetLow = false) (hrdy : s.rdyLow = false) (hjam : s.jammed = false)
    (hstage : s.micro.stage = .decode) (hseq : s.micro.seq = .instr) (hop : s.micro.opcode &&& 0x1F = 0x10) :
    ∃ cond, microStep s = (branchRow cond (s.micro.decodeCycle + 1) s.release).perform s.release := by
  obtain ⟨cond, hk⟩ := exists_kindOf_branch hop
  have hinside : s.micro.stage ≠ .opcode := by simp [hstage]
  have hrow : s.release.currentRow = branchRow cond (s.micro.decodeCycle + 1) s.release := by
    rw [State.currentRow_inside (s := s.release) hinside]
    simp only [rowsOf, State.release_micro, hseq, hk]
    rfl
  exact ⟨cond, (microStep_of_run (s.prelude_inside hreset hjam hinside)).trans
    ((State.microCycle_ready (s := s.release) hrdy).trans (by rw [hrow]))⟩

/-- Settles O21: the fetch of a branch polls, and of its rows only the third's way across a page. -/
theorem takenBranchCycleDoesNotPoll : Obligations.TakenBranchCycleDoesNotPoll := by
  refine ⟨fun s h hrule hop => ?_, fun s hreset hrdy _ hjam hrule hstage hseq hop => ?_⟩
  · simp [microStep_branch_fetch h hop, State.poll_irqPending, State.irqSeen, hrule]
  · obtain ⟨cond, hmicro⟩ := microStep_branch_inside (by simp [State.resetLow, hreset]) (by simp [State.rdyLow, hrdy])
      hjam hstage hseq hop
    refine ⟨fun hc => ?_, fun hc hp => ?_, fun hc hp => ?_, fun hc => ?_⟩
    · cases hcond : cond s.p <;>
        simp [hmicro, hc, branchRow, hcond, State.endInstr_irqPending, hrule, State.latch_eq]
    · simp [hmicro, hc, branchRow, hp, State.endInstr_irqPending, hrule]
    · simp [hmicro, hc, branchRow, hp, State.poll_irqPending, State.irqSeen, hrule, hstage, State.latch_eq]
    · simp [hmicro, hc, branchRow, State.endInstr_irqPending, hrule]

end Sys2Proof.Machine
end

section
/-! PROOFS. Cycles at known addresses, as transactions: a read adds to the transactions performed the byte seen there, and
the cycles of taking an interrupt and of returning from one (R707, R708) are such reads and pushes. -/

namespace Sys2Proof.Machine

variable {s t u : State} {bus : List Bus}

/-! ### Reads at known addresses -/

/-- An operation that performs no transaction may follow. -/
theorem After.thenSilent (h : After s t bus) (k : After t u []) : After s u bus := bus.append_nil ▸ h.trans k

/-- The transactions `bus` determine every byte of memory: it was in canonical form, or they only read. -/
def State.Legible (s : State) (bus : List Bus) : Prop := s.mem.wf = true ∨ ∀ b ∈ bus, b.2.1 = Rw.read

theorem State.Legible.reads (h : s.Legible bus) (addrs : List Word) : s.Legible (s.reads bus addrs) := by
  induction addrs generalizing bus with
  | nil => exact h
  | cons addr rest ih =>
    refine ih (h.imp_right fun hr b hb => ?_)
    rcases List.mem_append.mp hb with hb | hb
    · exact hr b hb
    · rw [List.mem_singleton.mp hb]; rfl

/-- A read cycle adds the byte seen at its address. -/
theorem After.readNext (h : After s t bus) (hl : s.Legible bus) {a addr : Word} (ha : a = addr) :
    After s (t.readCycle a) (s.reads bus [addr]) := by
  subst ha
  exact h.trans (h.busRead hl a ▸ After.read t a _)

theorem After.dummyNext (h : After s t bus) (hl : s.Legible bus) {addr : Word} (hpc : t.pc = addr) :
    After s t.dummyPc (s.reads bus [addr]) := h.readNext hl hpc

theorem After.topNext (h : After s t bus) (hl : s.Legible bus) {sp : Byte} (hsp : t.sp = sp) :
    After s (t.readCycle t.stackTop) (s.reads bus [stackAddr sp]) := h.readNext hl (congrArg stackAddr hsp)

/-- The byte at the top of the stack, as the next cycle reads it. -/
theorem After.busRead_stackTop (h : After s t bus) (hl : s.Legible bus) {sp : Byte} (hsp : t.sp = sp) :
    t.busRead t.stackTop = s.seen bus (stackAddr sp) := by
  rw [State.stackTop, hsp]
  exact h.busRead hl _

/-! ### Taking an interrupt (R707) -/

/-- The two ways to write a pushed status byte, bit by bit and as a sum (R56). -/
theorem Flags.pack_eq_statusByte (f : Flags) (b : Bool) : f.pack b = statusByte f b := by
  obtain ⟨n, v, d, i, z, c⟩ := f
  revert n v d i z c b
  decide

/-- The three pushes of an interrupt entry: the return address `ret`, then the flags `f` with bit 4 as `b`. -/
def entryPushes (sp : Byte) (ret : Word) (f : Flags) (b : Bool) : List Bus :=
  [wr (stackAddr sp) (hiByte ret), wr (stackAddr (sp - 1)) (loByte ret), wr (stackAddr (sp - 2)) (statusByte f b)]

theorem After.pushPcAndStatus (h : After s t bus) (b : Bool) :
    After s (t.pushPcAndStatus b) (bus ++ entryPushes t.sp t.pc t.p b) := by
  have hsp : t.sp - 1 - 1 = t.sp - 2 := by bv_omega
  have hpush : After t (t.pushPcAndStatus b)
      [wr (stackAddr t.sp) (hiByte t.pc), wr (stackAddr (t.sp - 1)) (loByte t.pc),
        wr (stackAddr (t.sp - 1 - 1)) (t.p.pack b)] :=
    ((After.push t _).trans (.push _ _)).trans (.push _ _)
  rw [hsp, Flags.pack_eq_statusByte] at hpush
  exact h.trans hpush

/-- The cycles of `loadVector`, before the end of the sequence. -/
def State.readVector (s : State) (lo hi : Word) : State :=
  let s1 := (s.readCycle lo).setI.poll
  (s1.readCycle hi).setPc (mkWord (s1.busRead hi) (s.busRead lo))

theorem State.enterInterrupt_eq (s : State) (b : Bool) :
    s.enterInterrupt b = ((s.pushPcAndStatus b).readVector 0xFFFE 0xFFFF).endTrap := rfl

/-- The vector's first read, up to the poll. -/
theorem After.vectorLow (h : After s t bus) (hl : s.Legible bus) (lo : Word) :
    After s (t.readCycle lo).setI.poll (s.reads bus [lo]) :=
  ((h.readNext hl rfl).thenSilent (.setI _)).thenSilent (.poll _)

theorem After.readVector (h : After s t bus) (hl : s.Legible bus) (lo hi : Word) :
    After s (t.readVector lo hi) (s.reads bus [lo, hi]) :=
  ((h.vectorLow hl lo).readNext (hl.reads _) (addr := hi) rfl).thenSilent (.setPc _ _)

theorem After.readVector_pc (h : After s t bus) (hl : s.Legible bus) (lo hi : Word) :
    (t.readVector lo hi).pc = mkWord (s.seen (s.reads bus [lo]) hi) (s.seen bus lo) := by
  show mkWord _ _ = _
  rw [(h.vectorLow hl lo).busRead (hl.reads _), h.busRead hl]

/-- The registers of an interrupt entry: SP three lower and I set, D kept. -/
theorem State.entry_regs (s : State) (b : Bool) (lo hi : Word) :
    ((s.pushPcAndStatus b).readVector lo hi).regs = { s.regs with sp := s.sp - 3, p := { s.p with i := true } } := by
  have hsp : s.sp - 1 - 1 - 1 = s.sp - 3 := by bv_omega
  simpa [State.readVector, State.pushPcAndStatus, State.regs] using hsp

theorem State.entry_lastOpcodeAddr (s : State) (b : Bool) (lo hi : Word) :
    ((s.pushPcAndStatus b).readVector lo hi).lastOpcodeAddr = s.lastOpcodeAddr := by
  simp [State.readVector, State.pushPcAndStatus]

/-! ### Returning from an interrupt (R708) -/

theorem After.pullFlags (s : State) (v : Byte) : After s (s.pullFlags v) [] := .withFlags s _

@[simp] theorem State.pullFlags_regs (s : State) (v : Byte) :
    (s.pullFlags v).regs = { s.regs with p := statusFlags v } := rfl

/-- The cycles of the return from an interrupt, before the end of the instruction. -/
def State.readReturn (s : State) : State :=
  let s3 := (s.readCycle s.stackTop).incSp
  let s4 := ((s3.readCycle s3.stackTop).pullFlags (s3.busRead s3.stackTop)).incSp
  let s5 := (s4.readCycle s4.stackTop).incSp.poll
  (s5.readCycle s5.stackTop).setPc (mkWord (s5.busRead s5.stackTop) (s4.busRead s4.stackTop))

theorem State.returnFromInterrupt_eq_end (s : State) : s.returnFromInterrupt = s.readReturn.endInstr := rfl

theorem State.readReturn_lastOpcodeAddr (s : State) : s.readReturn.lastOpcodeAddr = s.lastOpcodeAddr :=
  State.poll_lastOpcodeAddr _

/-- The return from an interrupt: its reads, and the registers and PC of the bytes pulled. -/
theorem After.readReturn (h : After s t bus) (w : s.mem.wf = true) :
    let r3 := s.reads bus [stackAddr t.sp]
    let r4 := s.reads r3 [stackAddr (t.sp + 1)]
    let r5 := s.reads r4 [stackAddr (t.sp + 2)]
    After s t.readReturn (s.reads r5 [stackAddr (t.sp + 3)]) ∧
    t.readReturn.regs =
      { t.regs with sp := t.sp + 3, p := statusFlags (s.seen r3 (stackAddr (t.sp + 1))) } ∧
    t.readReturn.pc = mkWord (s.seen r5 (stackAddr (t.sp + 3))) (s.seen r4 (stackAddr (t.sp + 2))) := by
  intro r3 r4 r5
  have hsp2 : t.sp + 1 + 1 = t.sp + 2 := by bv_omega
  have hsp3 : t.sp + 1 + 1 + 1 = t.sp + 3 := by bv_omega
  have h3 : After s (t.readCycle t.stackTop).incSp r3 := (h.topNext (.inl w) rfl).thenSilent (.incSp _)
  have hstatus := h3.busRead_stackTop (.inl w) (sp := t.sp + 1) rfl
  have h4 := ((h3.topNext (.inl w) (sp := t.sp + 1) rfl).thenSilent
    (.pullFlags _ (s.seen r3 (stackAddr (t.sp + 1))))).thenSilent (.incSp _)
  have hlo := h4.busRead_stackTop (.inl w) hsp2
  have h5 := ((h4.topNext (.inl w) hsp2).thenSilent (.incSp _)).thenSilent (.poll _)
  have hhi := h5.busRead_stackTop (.inl w) ((State.poll_sp _).trans hsp3)
  have h6 := (h5.topNext (.inl w) ((State.poll_sp _).trans hsp3)).thenSilent
    (.setPc _ (mkWord (s.seen r5 (stackAddr (t.sp + 3))) (s.seen r4 (stackAddr (t.sp + 2)))))
  unfold State.readReturn
  dsimp only
  rw [hstatus, hlo, hhi]
  refine ⟨h6, (State.poll_regs _).trans ?_, rfl⟩
  rw [← hsp3]
  rfl

end Sys2Proof.Machine
end

section
/-! PROOFS. BRK, RTI and the interrupt sequence, each as its transactions (R368, R369, R373). -/

namespace Sys2Proof.Machine

variable {s : State}

/-! ### BRK and RTI -/

/-- BRK up to its vector reads: its two bytes, then the pushes of the address two past its own. -/
theorem after_brk (s : State) (op signature : Byte) :
    After s ((s.fetch2 op signature).pushPcAndStatus true)
      (s.fetches [op, signature] ++ entryPushes s.sp (s.pc + 2) s.p true) := by
  have h := atOperand_fetch2 s op signature 0
  have hpc : (s.fetch2 op signature).pc = s.pc + 2 := h.pc
  rw [← hpc]
  exact h.after.pushPcAndStatus true

theorem brk_completes (w : s.mem.wf = true) (signature : Byte) :
    let b5 := s.fetches [0x00, signature] ++ entryPushes s.sp (s.pc + 2) s.p true
    Completes (.brk signature) s
      { code := [0x00, signature]
        bus := s.reads b5 [0xFFFE, 0xFFFF]
        regs := { s.regs with sp := s.sp - 3, p := { s.p with i := true } }
        pc := mkWord (s.seen (s.reads b5 [0xFFFE]) 0xFFFF) (s.seen b5 0xFFFE) } := by
  intro b5
  have h : After s ((s.fetch2 0x00 signature).pushPcAndStatus true) b5 := after_brk s 0x00 signature
  have hexec : exec (.brk signature) s =
      .next (((s.fetch2 0x00 signature).pushPcAndStatus true).readVector 0xFFFE 0xFFFF).endTrap :=
    congrArg Host.Outcome.next (State.enterInterrupt_eq _ true)
  exact completes_of_after_trap rfl hexec (h.readVector (.inl w) _ _) (.inl w) (State.entry_regs _ _ _ _)
    (h.readVector_pc (.inl w) _ _) (State.entry_lastOpcodeAddr _ _ _ _)

theorem rti_completes (w : s.mem.wf = true) :
    let r3 := s.reads [rd s.pc 0x40] [s.pc + 1, stackAddr s.sp]
    let r4 := s.reads r3 [stackAddr (s.sp + 1)]
    let r5 := s.reads r4 [stackAddr (s.sp + 2)]
    Completes .rti s
      { code := [0x40]
        bus := s.reads r5 [stackAddr (s.sp + 3)]
        regs := { s.regs with sp := s.sp + 3, p := statusFlags (s.seen r3 (stackAddr (s.sp + 1))) }
        pc := mkWord (s.seen r5 (stackAddr (s.sp + 3))) (s.seen r4 (stackAddr (s.sp + 2))) } := by
  intro r3 r4 r5
  have h : After s (s.opcodeCycle 0x40).dummyPc (s.reads [rd s.pc 0x40] [s.pc + 1]) :=
    (After.opcode s 0x40).dummyNext (.inl w) rfl
  have hexec : exec .rti s = .next (s.opcodeCycle 0x40).dummyPc.readReturn.endInstr :=
    congrArg Host.Outcome.next (State.returnFromInterrupt_eq_end _)
  obtain ⟨hafter, hregs, hpc⟩ := h.readReturn w
  exact completes_of_after rfl hexec hafter (.inl w) hregs hpc (State.readReturn_lastOpcodeAddr _)

/-- Settles O33: BRK is its fetches and an interrupt entry, whose poll finds I set; RTI is its fetch, a dummy read and a
return, whose poll finds the I that it pulled. -/
theorem breakAndInterruptReturnComplete : Obligations.BreakAndInterruptReturnComplete := by
  intro s signature w
  have hrti := rti_completes w
  refine ⟨brk_completes w signature, hrti, ⟨_, rfl, State.loadVector_irqPending _ _ _⟩, _, rfl, ?_⟩
  obtain ⟨-, t, ht, hregs, -⟩ := hrti
  cases ht
  have hp : (rti 0x40 s).p = _ := congrArg Regs.p hregs
  simp only [rti_irqPending, hp]

/-! ### The interrupt sequence -/

section
variable (s : State)

theorem State.release_byteAfter (a : Nat) (bus : List Bus) (v : Byte) :
    s.release.byteAfter a bus v = s.byteAfter a bus v := by
  induction bus generalizing v with
  | nil => rfl
  | cons b rest ih => exact ih _

theorem State.release_seen (bus : List Bus) (addr : Word) : s.release.seen bus addr = s.seen bus addr := by
  show (if s.aecLow then _ else match s.regionAt addr with | .external => _ | _ => s.release.byteAfter _ _ _) = _
  rw [State.release_byteAfter]
  rfl

/-- The reads of a step do not depend on whether RESET was held before it. -/
theorem State.release_reads (bus : List Bus) (addrs : List Word) : s.release.reads bus addrs = s.reads bus addrs := by
  induction addrs generalizing bus with
  | nil => rfl
  | cons addr rest ih => rw [State.reads, ih, State.release_seen, State.reads]

end

theorem After.startIrq (s : State) : After s s.startIrq [] := .silent rfl rfl rfl rfl rfl rfl rfl rfl rfl rfl rfl

/-- The interrupt sequence up to its vector reads: two dummy reads at PC, then the pushes. -/
theorem after_irq (w : s.mem.wf = true) :
    After s (s.startIrq.dummyPc.dummyPc.pushPcAndStatus false)
      (s.reads [] [s.pc, s.pc] ++ entryPushes s.sp s.pc s.p false) :=
  (((After.startIrq s).dummyNext (.inl w) rfl).dummyNext (.inl w) rfl).pushPcAndStatus false

/-- With RDY high an interrupt pending at a boundary is taken (R300). -/
theorem step_irq (hreset : s.resetLow = false) (hrdy : s.rdyLow = false) (hp : s.resetPending = false)
    (hj : s.jammed = false) (hs : s.micro.stage = .opcode) (hi : s.irqPending = true) :
    step s = .next (s.release.startIrq.dummyPc.dummyPc.enterInterrupt false) := by
  have hup : s.release.startIrq.upcoming = .irqSequence := by
    show (if s.rdyLow = true then Upcoming.stall else .irqSequence) = _
    simp [hrdy]
  have hrun : s.prelude = .run s.release.startIrq := s.prelude_irq hreset hp hs hj hi
  simp only [step, hrun, hup, State.irqSequence]

/-- Settles O16: the step is two dummy reads and an interrupt entry, from the state that RESET no longer holds. -/
theorem interruptEntry : Obligations.InterruptEntry := by
  intro s w hreset hrdy hp hj hs hi b5 b6 bus
  have hstep := step_irq (by simp [State.resetLow, hreset]) (by simp [State.rdyLow, hrdy]) hp hj hs hi
  rw [State.enterInterrupt_eq] at hstep
  have hpush := after_irq (s := s.release) w
  have hpc := hpush.readVector_pc (.inl w) 0xFFFE 0xFFFF
  have h := (hpush.readVector (.inl w) 0xFFFE 0xFFFF).thenSilent (.endTrap _)
  simp only [State.release_reads, State.release_seen] at hpc h
  exact ⟨_, hstep, (State.endTrap_regs _).trans (State.entry_regs _ _ _ _), (State.endTrap_pc _).trans hpc, h.platform,
    h.trace, fun a => (h.mem (.inl w) a).trans (s.release_byteAfter a _ _), h.counter,
    (State.endTrap_lastOpcodeAddr _).trans (State.entry_lastOpcodeAddr _ _ _ _), State.loadVector_irqPending _ _ _,
    State.endTrap_stage _, h.jammed.trans hj, h.faultLog, h.outside.network⟩

end Sys2Proof.Machine
end

section
/-! PROOFS. The conditional branches, by their ways (R362): not taken, taken within a page, taken across one. And the JAM
opcodes (R371). -/

namespace Sys2Proof.Machine

variable {s : State}

/-! ### Branches -/

/-- What a branch does, taken or not. -/
def State.branchEffect (s : State) (op rel8 : Byte) (taken : Bool) : Effect :=
  let next := s.pc + 2
  let target := next + sext16 rel8
  { code := [op, rel8]
    bus := s.reads (s.fetches [op, rel8])
      (if taken then
        (if hiByte target = hiByte next then [next] else [next, mkWord (hiByte next) (loByte target)])
      else [])
    regs := s.regs
    pc := if taken then target else next }

/-- A branch's two fetches, with the poll between them. -/
theorem after_branchFetches (s : State) (op rel8 : Byte) :
    After s ((s.opcodeCycle op).poll.fetchCycle rel8) (s.fetches [op, rel8]) := by
  have hpc : (s.opcodeCycle op).poll.pc = s.pc + 1 := by simp
  have h := ((After.opcode s op).thenSilent (.poll _)).trans (.fetch _ rel8)
  rwa [hpc] at h

theorem branch_completes {i : Instr} {op rel8 : Byte} {cond : Flags → Bool} (henc : encode i = [op, rel8])
    (hexec : exec i s = .next (branch op rel8 cond s)) : Completes i s (s.branchEffect op rel8 (cond s.p)) := by
  have h2 := after_branchFetches s op rel8
  have hl : s.Legible (s.fetches [op, rel8]) := .inr (by simp [State.fetches, rd])
  have hp : ((s.opcodeCycle op).poll.fetchCycle rel8).p = s.p := by simp
  have hpc : ((s.opcodeCycle op).poll.fetchCycle rel8).pc = s.pc + 2 := by simp [BitVec.add_assoc]
  have h3 := h2.dummyNext hl hpc
  unfold branch branchTarget at hexec
  unfold State.branchEffect
  dsimp only at hexec ⊢
  rw [hp, hpc] at hexec
  cases hc : cond s.p with
  | false =>
    rw [hc] at hexec
    exact completes_of_after henc hexec h2 hl (by simp) hpc (by simp)
  | true =>
    simp only [hc, if_true] at hexec ⊢
    by_cases hpage : hiByte (s.pc + 2 + sext16 rel8) = hiByte (s.pc + 2)
    · rw [if_pos hpage] at hexec ⊢
      exact completes_of_after henc hexec (h3.thenSilent (.setPc _ _)) (hl.reads [_]) (by simp) rfl (by simp)
    · rw [if_neg hpage] at hexec ⊢
      have hwrong := (h3.thenSilent (.setPc _ (mkWord (hiByte (s.pc + 2)) (loByte (s.pc + 2 + sext16 rel8))))).thenSilent
        (.poll _)
      have h4 := hwrong.dummyNext (hl.reads [_]) (State.poll_pc _)
      exact completes_of_after henc hexec (h4.thenSilent (.setPc _ _)) (hl.reads [_, _]) (by simp) rfl (by simp)

/-- Settles O34: the eight branches are one sequence under eight conditions. -/
theorem branchesComplete : Obligations.BranchesComplete := fun _ _ =>
  ⟨branch_completes (cond := Flags.plus) rfl rfl, branch_completes (cond := Flags.minus) rfl rfl,
    branch_completes (cond := Flags.overflowClear) rfl rfl, branch_completes (cond := Flags.overflowSet) rfl rfl,
    branch_completes (cond := Flags.carryClear) rfl rfl, branch_completes (cond := Flags.carrySet) rfl rfl,
    branch_completes (cond := Flags.notEqual) rfl rfl, branch_completes (cond := Flags.equal) rfl rfl⟩

/-! ### JAM -/

/-- `t` is `s` locked up by the JAM opcode `op`: its fetch is the one transaction and its record the one new fault. -/
def State.LockedBy (s : State) (op : Byte) (t : State) : Prop :=
  t.jammed = true ∧ t.isHalted = true ∧
  t.faultLog = s.faultLog ++ [{ kind := .jam op s.pc, cycle := s.cycleCounter + 1 }] ∧
  t.pc = s.pc + 1 ∧ t.lastOpcodeAddr = s.pc ∧ t.regs = s.regs ∧ t.mem = s.mem ∧
  t.trace = s.txn (rd s.pc op) :: s.trace ∧ t.cycleCounter = s.cycleCounter + 1 ∧ t.micro.stage = .opcode ∧
  t.irqPending = s.irqPending ∧ t.platform = s.platformAfter [rd s.pc op] ∧ s.SameOutside t

theorem lockedBy_jam (s : State) (op : Byte) : s.LockedBy op (jam op s) := by
  have h := After.opcode s op
  have hhalted : (jam op s).isHalted = true := by simp [State.isHalted, jam, State.enterJam]
  exact ⟨rfl, hhalted, rfl, rfl, rfl, rfl, rfl, rfl, rfl, rfl, rfl, h.platform, { h.outside with }⟩

/-- Settles O40: the twelve opcodes are one operation. -/
theorem jamLocksTheCpu : Obligations.JamLocksTheCpu := by
  intro s
  have h (op : Byte) := lockedBy_jam s op
  exact ⟨⟨rfl, _, rfl, h 0x02⟩, ⟨rfl, _, rfl, h 0x12⟩, ⟨rfl, _, rfl, h 0x22⟩, ⟨rfl, _, rfl, h 0x32⟩,
    ⟨rfl, _, rfl, h 0x42⟩, ⟨rfl, _, rfl, h 0x52⟩, ⟨rfl, _, rfl, h 0x62⟩, ⟨rfl, _, rfl, h 0x72⟩,
    ⟨rfl, _, rfl, h 0x92⟩, ⟨rfl, _, rfl, h 0xB2⟩, ⟨rfl, _, rfl, h 0xD2⟩, ⟨rfl, _, rfl, h 0xF2⟩⟩

end Sys2Proof.Machine
end

section
/-! PROOFS. The loads, the stores and the transfers (R401 to R412, R605): one rule for each addressing mode and access class, and
what each operation does to the registers. -/

namespace Sys2Proof.Machine

variable {s : State} {i : Instr} {op zp index : Byte} {addr : Word}

/-! ### Class R by addressing mode (R354 to R361) -/

section
variable {effect : Byte → State → State} {f : Regs → Byte → Regs} (he : ∀ v u, effect v u = u.withRegs (f u.regs v))
include he

theorem reads_zp (henc : encode i = [op, zp])
    (hexec : exec i s = .next (readZp op zp effect s)) : Reads i s (s.viaZp op zp) f :=
  reads_of_head (atOperand_zp s op zp) henc hexec he

/-- zp,X and zp,Y. -/
theorem reads_zpIndexed (henc : encode i = [op, zp])
    (hexec : exec i s = .next ((s.headZpIndexed op zp).readTail (zpAddr (zp + index)) effect)) :
    Reads i s (s.viaZpIndexed op zp index) f :=
  reads_of_head (atOperand_zpIndexed s op zp index) henc hexec he

theorem reads_abs (henc : encode i = code3 op addr)
    (hexec : exec i s = .next (readAbs op addr effect s)) : Reads i s (s.viaAbs op addr) f :=
  reads_of_head (atOperand_abs s op addr) henc hexec he

/-- abs,X and abs,Y. -/
theorem reads_absIndexed (henc : encode i = code3 op addr)
    (hexec : exec i s = .next ((s.headAbsRead op addr index).readTail (indexed addr index) effect)) :
    Reads i s (s.viaAbsIndexedRead op addr index) f :=
  reads_of_head (atOperand_absRead s op addr index) henc hexec he

theorem reads_izx (henc : encode i = [op, zp])
    (hexec : exec i s = .next (readIzx op zp effect s)) : Reads i s (s.viaIzx op zp) f :=
  reads_of_head (atOperand_izx s op zp) henc (readIzx_eq s op zp effect ▸ hexec) he

theorem reads_izy (henc : encode i = [op, zp])
    (hexec : exec i s = .next (readIzy op zp effect s)) : Reads i s (s.viaIzyRead op zp) f :=
  reads_of_head (atOperand_izyRead s op zp) henc (readIzy_eq s op zp effect ▸ hexec) he

end

/-! ### Loads (R401 to R403) -/

theorem opLda_eq_withRegs (v : Byte) (u : State) : opLda v u = u.withRegs (u.regs.lda v) := rfl

theorem opLdx_eq_withRegs (v : Byte) (u : State) : opLdx v u = u.withRegs (u.regs.ldx v) := rfl

theorem opLdy_eq_withRegs (v : Byte) (u : State) : opLdy v u = u.withRegs (u.regs.ldy v) := rfl

/-- Settles O22: each form is its mode's rule for class R, or the immediate one, with the load's effect. -/
theorem loadsComplete : Obligations.LoadsComplete := by
  intro s imm8 zp8 addr16
  exact ⟨reads_izx opLda_eq_withRegs rfl rfl, reads_zp opLda_eq_withRegs rfl rfl,
    readsImm_of_effect rfl rfl opLda_eq_withRegs, reads_abs opLda_eq_withRegs rfl rfl,
    reads_izy opLda_eq_withRegs rfl rfl, reads_zpIndexed opLda_eq_withRegs rfl rfl,
    reads_absIndexed opLda_eq_withRegs rfl rfl, reads_absIndexed opLda_eq_withRegs rfl rfl,
    readsImm_of_effect rfl rfl opLdx_eq_withRegs, reads_zp opLdx_eq_withRegs rfl rfl,
    reads_abs opLdx_eq_withRegs rfl rfl, reads_zpIndexed opLdx_eq_withRegs rfl rfl,
    reads_absIndexed opLdx_eq_withRegs rfl rfl,
    readsImm_of_effect rfl rfl opLdy_eq_withRegs, reads_zp opLdy_eq_withRegs rfl rfl,
    reads_abs opLdy_eq_withRegs rfl rfl, reads_zpIndexed opLdy_eq_withRegs rfl rfl,
    reads_absIndexed opLdy_eq_withRegs rfl rfl⟩

/-! ### Class W by addressing mode (R354 to R361) -/

section
variable {value : State → Byte} {v : Byte} (w : s.mem.wf = true) (hv : ∀ u : State, u.regs = s.regs → value u = v)
include w hv

theorem writes_zp (henc : encode i = [op, zp]) (hexec : exec i s = .next (writeZp op zp value s)) :
    Writes i s (s.viaZp op zp) v :=
  writes_of_head w (atOperand_zp s op zp) henc hexec hv

/-- zp,X and zp,Y. -/
theorem writes_zpIndexed (henc : encode i = [op, zp])
    (hexec : exec i s = .next ((s.headZpIndexed op zp).writeTail (zpAddr (zp + index)) value)) :
    Writes i s (s.viaZpIndexed op zp index) v :=
  writes_of_head w (atOperand_zpIndexed s op zp index) henc hexec hv

theorem writes_abs (henc : encode i = code3 op addr) (hexec : exec i s = .next (writeAbs op addr value s)) :
    Writes i s (s.viaAbs op addr) v :=
  writes_of_head w (atOperand_abs s op addr) henc hexec hv

/-- abs,X and abs,Y. -/
theorem writes_absIndexed (henc : encode i = code3 op addr)
    (hexec : exec i s = .next ((s.headAbsFixed op addr index).writeTail (indexed addr index) value)) :
    Writes i s (s.viaAbsIndexed op addr index) v :=
  writes_of_head w (atOperand_absFixed s op addr index) henc hexec hv

theorem writes_izx (henc : encode i = [op, zp]) (hexec : exec i s = .next (writeIzx op zp value s)) :
    Writes i s (s.viaIzx op zp) v :=
  writes_of_head w (atOperand_izx s op zp) henc (writeIzx_eq s op zp value ▸ hexec) hv

theorem writes_izy (henc : encode i = [op, zp]) (hexec : exec i s = .next (writeIzy op zp value s)) :
    Writes i s (s.viaIzy op zp) v :=
  writes_of_head w (atOperand_izyFixed s op zp) henc (writeIzy_eq s op zp value ▸ hexec) hv

end

/-! ### Stores (R404 to R406, R605) -/

/-- Settles O23: each form is its mode's rule for class W, and the byte written is one of the registers alone. -/
theorem storesComplete : Obligations.StoresComplete := by
  intro s zp8 addr16 w
  have ha (u : State) (h : u.regs = s.regs) : storeA u = s.a := congrArg Regs.a h
  have hx (u : State) (h : u.regs = s.regs) : storeX u = s.x := congrArg Regs.x h
  have hy (u : State) (h : u.regs = s.regs) : storeY u = s.y := congrArg Regs.y h
  have hax (u : State) (h : u.regs = s.regs) : storeSax u = s.a &&& s.x := congrArg₂ (· &&& ·) (ha u h) (hx u h)
  exact ⟨writes_izx w ha rfl rfl, writes_zp w ha rfl rfl, writes_abs w ha rfl rfl, writes_izy w ha rfl rfl,
    writes_zpIndexed w ha rfl rfl, writes_absIndexed w ha rfl rfl, writes_absIndexed w ha rfl rfl,
    writes_zp w hx rfl rfl, writes_abs w hx rfl rfl, writes_zpIndexed w hx rfl rfl,
    writes_zp w hy rfl rfl, writes_abs w hy rfl rfl, writes_zpIndexed w hy rfl rfl,
    writes_izx w hax rfl rfl, writes_zp w hax rfl rfl, writes_abs w hax rfl rfl, writes_zpIndexed w hax rfl rfl⟩

/-! ### Transfers (R407 to R412) -/

/-- Settles O24: each transfer is implied, and is its effect on the registers and nothing else. -/
theorem transfersComplete : Obligations.TransfersComplete := by
  intro s
  have htax (u : State) : opTax u = u.withRegs ({ u.regs with x := u.a }.nz u.a) := rfl
  have htay (u : State) : opTay u = u.withRegs ({ u.regs with y := u.a }.nz u.a) := rfl
  have htxa (u : State) : opTxa u = u.withRegs ({ u.regs with a := u.x }.nz u.x) := rfl
  have htya (u : State) : opTya u = u.withRegs ({ u.regs with a := u.y }.nz u.y) := rfl
  have htsx (u : State) : opTsx u = u.withRegs ({ u.regs with x := u.sp }.nz u.sp) := rfl
  have htxs (u : State) : opTxs u = u.withRegs { u.regs with sp := u.x } := rfl
  exact ⟨implied_of_effect rfl rfl htax, implied_of_effect rfl rfl htay, implied_of_effect rfl rfl htxa,
    implied_of_effect rfl rfl htya, implied_of_effect rfl rfl htsx, implied_of_effect rfl rfl htxs⟩

end Sys2Proof.Machine
end

section
/-! PROOFS. The push and the pull, each as its transactions (R364, R365), and the four stack instructions (R413 to R416). -/

namespace Sys2Proof.Machine

variable {s : State} {i : Instr} {op : Byte}

/-- The opcode's fetch and the dummy read after it, which begin every stack instruction. -/
theorem after_opcodeDummy (s : State) (op : Byte) :
    After s (s.opcodeCycle op).dummyPc (s.reads [rd s.pc op] [s.pc + 1]) :=
  (After.opcode s op).dummyNext (.inr (by simp [rd])) rfl

/-- A push writes at the top of the stack the byte named by the state before the instruction, then decrements SP (R364). -/
theorem push_completes {value : State → Byte} (w : s.mem.wf = true) (henc : encode i = [op])
    (hexec : exec i s = .next (push op value s)) :
    Completes i s
      { code := [op]
        bus := s.reads [rd s.pc op] [s.pc + 1] ++ [wr (stackAddr s.sp) (value s)]
        regs := { s.regs with sp := s.sp - 1 }
        pc := s.pc + 1 } := by
  have hsp : (s.opcodeCycle op).dummyPc.poll.sp = s.sp := by simp
  have hpush := After.push (s.opcodeCycle op).dummyPc.poll (value s)
  rw [hsp] at hpush
  exact completes_of_after henc hexec (((after_opcodeDummy s op).thenSilent (.poll _)).trans hpush) (.inl w)
    (by simp [State.regs]) (by simp) (by simp)

/-- A pull increments SP and reads at the new top of the stack; `f` gives the registers (R365). -/
theorem pull_completes {effect : Byte → State → State} {f : Regs → Byte → Regs}
    (he : ∀ v u, effect v u = u.withRegs (f u.regs v)) (henc : encode i = [op])
    (hexec : exec i s = .next (pull op effect s)) :
    let r3 := s.reads [rd s.pc op] [s.pc + 1, stackAddr s.sp]
    Completes i s
      { code := [op]
        bus := s.reads r3 [stackAddr (s.sp + 1)]
        regs := f { s.regs with sp := s.sp + 1 } (s.seen r3 (stackAddr (s.sp + 1)))
        pc := s.pc + 1 } := by
  intro r3
  have hl : s.Legible [rd s.pc op] := .inr (by simp [rd])
  have h3 := (((after_opcodeDummy s op).topNext (hl.reads _) (sp := s.sp) rfl).thenSilent (.incSp _)).thenSilent (.poll _)
  have hv := h3.busRead_stackTop (hl.reads [_, _]) (sp := s.sp + 1) (State.poll_sp _)
  have h4 := h3.topNext (hl.reads [_, _]) (sp := s.sp + 1) (State.poll_sp _)
  unfold pull at hexec
  dsimp only at hexec
  rw [he, hv] at hexec
  refine completes_of_after henc hexec (h4.thenSilent (.withRegs _ _)) (hl.reads [_, _, _]) ?_ (State.poll_pc _)
    (State.poll_lastOpcodeAddr _)
  exact congrArg (f · _) (State.poll_regs _)

/-- Settles O25: PHA and PHP are pushes, PLA and PLP are pulls. -/
theorem stackInstructionsComplete : Obligations.StackInstructionsComplete := by
  intro s w two three v
  have hphp := push_completes (i := .php) (value := pushedP) w rfl rfl
  rw [pushedP, Flags.pack_eq_statusByte] at hphp
  have hpla (b : Byte) (u : State) : opPla b u = u.withRegs (u.regs.lda b) := rfl
  have hplp (b : Byte) (u : State) : opPlp b u = u.withRegs { u.regs with p := statusFlags b } := rfl
  exact ⟨push_completes (value := pushedA) w rfl rfl, hphp, pull_completes hpla rfl rfl,
    pull_completes (f := fun r b => { r with p := statusFlags b }) hplp rfl rfl⟩

end Sys2Proof.Machine
end

section
/-! PROOFS. The adders, the compare and the rotates as arithmetic (R450 to R455, R483 to R485): a sign is the top bit, and the
decimal adders are sums and differences of digits. -/

namespace Sys2Proof.Machine

variable (a b v : Byte) (c : Bool)

/-! ### Carries and signs -/

theorem carryNat_eq_toNat : carryNat c = c.toNat := by cases c <;> rfl

theorem toNat_decide (p : Prop) [Decidable p] : (decide p).toNat = if p then 1 else 0 :=
  apply_ite Bool.toNat p true false

theorem bit_seven : bit v 7 = v.msb := (BitVec.msb_eq_getLsbD_last v).symm

/-- The sign mask $80 keeps the top bit. -/
theorem decide_and_signMask_ne_zero : decide (v &&& 0x80 ≠ 0) = v.msb := by
  have hmask : v &&& 0x80 = if v.getLsbD 7 then 0x80 else 0 := BitVec.and_twoPow v 7
  rw [hmask, ← bit_seven, bit]
  cases v.getLsbD 7 <;> rfl

theorem msb_iff_le_toNat : v.msb = true ↔ 128 ≤ v.toNat := by simp [BitVec.msb_eq_decide]

/-- A byte as a signed number, from its sign. -/
theorem toInt_eq_of_sign : v.toInt = if 128 ≤ v.toNat then (v.toNat : Int) - 256 else v.toNat := by
  simp [BitVec.toInt_eq_msb_cond, BitVec.msb_eq_decide]

/-! ### The binary adders (R451, R453) -/

theorem AluOut.ext {o p : AluOut} (hr : o.r = p.r) (hn : o.n = p.n) (hv : o.v = p.v) (hz : o.z = p.z) (hc : o.c = p.c) :
    o = p := by
  cases o
  cases p
  simp_all

theorem addBin_r : (addBin a b c).r = a + b + BitVec.ofNat 8 c.toNat := by
  apply BitVec.eq_of_toNat_eq
  simp [addBin, carryNat_eq_toNat]

/-- The sign rule of V in words. -/
theorem sameSign_and_otherSign_iff (x y z : Bool) :
    (!(x ^^ y) && (x ^^ z)) = true ↔ (x = true ↔ y = true) ∧ ¬ (x = true ↔ z = true) := by
  revert x y z
  decide

/-- V of a sum: the operands have one sign and the result the other. -/
theorem addBin_v : (addBin a b c).v = (!(a.msb ^^ b.msb) && (a.msb ^^ (addBin a b c).r.msb)) := by
  simp only [addBin, decide_and_signMask_ne_zero, BitVec.msb_and, BitVec.msb_not, BitVec.msb_xor]
  simp

theorem addBin_n : (addBin a b c).n = (addBin a b c).r.msb := bit_seven _

theorem addBin_c : (addBin a b c).c = decide (256 ≤ a.toNat + b.toNat + c.toNat) := by
  simp [addBin, carryNat_eq_toNat, Nat.lt_iff_add_one_le]

theorem addBin_r_toNat : (addBin a b c).r.toNat = (a.toNat + b.toNat + c.toNat) % 256 := by simp [addBin_r]

theorem addBin_exact : (addBin a b c).r.toNat + 256 * (addBin a b c).c.toNat = a.toNat + b.toNat + c.toNat := by
  have ha := a.isLt
  have hb := b.isLt
  have hc := c.toNat_le
  rw [addBin_r_toNat, addBin_c, toNat_decide]
  split <;> omega

/-- V of a sum is signed overflow. -/
theorem addBin_v_iff :
    (addBin a b c).v = true ↔ a.toInt + b.toInt + c.toNat < -128 ∨ 127 < a.toInt + b.toInt + c.toNat := by
  have ha := a.isLt
  have hb := b.isLt
  have hc := c.toNat_le
  rw [addBin_v, sameSign_and_otherSign_iff, msb_iff_le_toNat, msb_iff_le_toNat, msb_iff_le_toNat, addBin_r_toNat,
    toInt_eq_of_sign, toInt_eq_of_sign]
  omega

/-- Settles O45: the sum and the carry by division by 256, V from the signs of the operands and the result. -/
theorem binaryAdderIsExact : Obligations.BinaryAdderIsExact := fun a b c =>
  ⟨addBin_exact a b c, addBin_v_iff a b c, by rw [addBin_n, BitVec.msb_eq_toInt, decide_eq_true_iff],
    decide_eq_true_iff⟩

/-- Subtraction is addition of the complement (R484 (a)). -/
theorem subBin_eq_addBin_not : subBin a b c = addBin a (~~~b) c := by
  have hnot : (~~~b).toNat = 255 - b.toNat := BitVec.toNat_not
  have hb := b.isLt
  have hr : (subBin a b c).r = (addBin a (~~~b) c).r := by
    apply BitVec.eq_of_toNat_eq
    simp only [subBin, addBin, BitVec.toNat_ofInt, BitVec.toNat_ofNat, hnot, carryNat_eq_toNat]
    omega
  refine AluOut.ext hr (congrArg (bit · 7) hr) ?_ (congrArg (fun r => decide (r = 0)) hr) ?_
  · rw [addBin_v, ← hr]
    simp only [subBin, decide_and_signMask_ne_zero, BitVec.msb_and, BitVec.msb_xor, BitVec.msb_not]
    cases a.msb <;> cases b.msb <;> simp
  · simp only [subBin, addBin, hnot, carryNat_eq_toNat, decide_eq_decide]
    omega

theorem subBin_r : (subBin a b c).r = a - b - BitVec.ofNat 8 (1 - c.toNat) := by
  have hc := c.toNat_le
  apply BitVec.eq_of_toNat_eq
  simp only [subBin, carryNat_eq_toNat, BitVec.toNat_ofInt, BitVec.toNat_sub, BitVec.toNat_ofNat]
  omega

/-- Addition commutes (R484 (b)). -/
theorem addBin_comm : addBin a b c = addBin b a c := by
  have hr : (addBin a b c).r = (addBin b a c).r := by rw [addBin_r, addBin_r, BitVec.add_comm a b]
  refine AluOut.ext hr (congrArg (bit · 7) hr) ?_ (congrArg (fun r => decide (r = 0)) hr) ?_
  · rw [addBin_v, addBin_v, hr]
    cases a.msb <;> cases b.msb <;> rfl
  · simp only [addBin, Nat.add_comm a.toNat]

theorem getLsbD_carryByte (i : Nat) : (carryByte c).getLsbD i = (decide (i = 0) && c) := by
  cases c <;> simp [carryByte, BitVec.getLsbD_one]

/-- A rotation right undoes a rotation left, the carry threaded through (R484 (d)). -/
theorem ror_rol : ror (rol v c).1 (rol v c).2 = (v, c) := by
  have hlow : bit (rol v c).1 0 = c := by cases c <;> simp [rol, bit, carryByte]
  refine Prod.ext (BitVec.eq_of_getLsbD_eq fun i hi => ?_) hlow
  simp only [ror, rol, bit, BitVec.getLsbD_or, BitVec.getLsbD_ushiftRight, BitVec.getLsbD_shiftLeft, getLsbD_carryByte]
  obtain rfl | hi := (Nat.le_of_lt_succ hi).eq_or_lt
  · simp
  · have hup : 1 + i < 8 := by omega
    simp [hi, hi.le, hup]

/-- A compare sets C and Z as the subtraction with no borrow does (R484 (e)). -/
theorem compare_eq_subBin (f : Flags) (r b : Byte) :
    (f.compare r b).c = (subBin r b true).c ∧ (f.compare r b).z = (subBin r b true).z := by
  constructor
  · simp [Flags.compare, subBin, carryNat]
  · show decide (r - b = 0) = decide ((subBin r b true).r = 0)
    simp [subBin_r]

/-- Settles O46: (c) is by the results as bytes, the others are the laws above. -/
theorem adderLaws : Obligations.AdderLaws := by
  refine ⟨subBin_eq_addBin_not, addBin_comm, fun a m => ?_, ror_rol, fun f r b => ?_⟩
  · simp [subBin_r, addBin_r]
  · obtain ⟨hc, hz⟩ := compare_eq_subBin f r b
    exact ⟨hc, hz, rfl⟩

/-! ### The digits of a byte -/

/-- The byte `v` has the hexadecimal digits `h` and `l`. -/
structure HasDigits (v : Byte) (h l : Nat) : Prop where
  toNat_eq : v.toNat = 16 * h + l
  low_lt : l < 16

section
variable {v : Byte} {h l : Nat}

theorem hasDigits_ofNat (hh : h < 16) (hl : l < 16) : HasDigits (BitVec.ofNat 8 (16 * h + l)) h l :=
  ⟨Nat.mod_eq_of_lt (by omega), hl⟩

theorem HasDigits.toNat_and_lowMask (d : HasDigits v h l) : (v &&& 0x0F).toNat = l := by
  have hmod : (v &&& 0x0F).toNat = v.toNat % 16 := Nat.and_two_pow_sub_one_eq_mod v.toNat 4
  rw [hmod, d.toNat_eq]
  have hl := d.low_lt
  omega

theorem HasDigits.toNat_and_highMask (d : HasDigits v h l) : (v &&& 0xF0).toNat = 16 * h := by
  have hshift : v &&& (0xF0 : Byte) = (v >>> 4) <<< 4 := (BitVec.shiftLeft_ushiftRight (x := v) (n := 4)).symm
  have hv := v.isLt
  have hl := d.low_lt
  rw [hshift, BitVec.toNat_shiftLeft, BitVec.toNat_ushiftRight, Nat.shiftLeft_eq, Nat.shiftRight_eq_div_pow, d.toNat_eq]
  rw [d.toNat_eq] at hv
  omega

theorem HasDigits.msb_iff (d : HasDigits v h l) : v.msb = true ↔ 8 ≤ h := by
  have hl := d.low_lt
  rw [msb_iff_le_toNat, d.toNat_eq]
  omega

end

/-! ### The decimal adders (R452, R454) -/

/-- The low digit of a decimal sum, from the sum of the low digits. -/
def sumDigit (low : Nat) : Nat := if 10 ≤ low then (low + 6) % 16 else low

/-- The high digit of a decimal sum, from the sum of the high digits and the carry. -/
def sumHigh (hi : Nat) : Nat := if 10 ≤ hi then hi + 6 else hi

/-- The carry out of the low digits of a decimal sum. -/
def sumHalf (low : Nat) : Nat := (decide (10 ≤ low)).toNat

theorem sumDigit_lt (low : Nat) : sumDigit low < 16 := by
  unfold sumDigit
  split <;> omega

section
variable {a b : Byte} {c : Bool} {ah al bh bl : Nat} (ha : HasDigits a ah al) (hb : HasDigits b bh bl)

include ha hb in
/-- The digits of the value of `addDec` before its high digit is corrected. -/
theorem addDecMid_eq : addDecMid a b c =
    16 * (ah + bh + sumHalf (al + bl + c.toNat)) + sumDigit (al + bl + c.toNat) := by
  simp only [addDecMid, addDecLow, ha.toNat_and_lowMask, ha.toNat_and_highMask, hb.toNat_and_lowMask, hb.toNat_and_highMask,
    carryNat_eq_toNat, sumHalf, sumDigit, toNat_decide]
  split <;> omega

section
variable {hi digit : Nat} (h : addDecMid a b c = 16 * hi + digit) (hd : digit < 16)
include h hd

theorem addDec_r : (addDec a b c).r = BitVec.ofNat 8 (16 * sumHigh hi + digit) := by
  simp only [addDec, h, sumHigh]
  congr 1
  split <;> split <;> omega

theorem addDec_c_iff : (addDec a b c).c = true ↔ 10 ≤ hi := by
  simp only [addDec, h, decide_eq_true_iff]
  split <;> omega

theorem msb_addDecMid_iff : (BitVec.ofNat 8 (addDecMid a b c)).msb = true ↔ 8 ≤ hi % 16 := by
  rw [msb_iff_le_toNat, BitVec.toNat_ofNat, h]
  omega

theorem addDec_n_iff : (addDec a b c).n = true ↔ 8 ≤ hi % 16 := by
  rw [← msb_addDecMid_iff h hd, ← bit_seven]
  rfl

end

theorem addDec_v : (addDec a b c).v = (!(a.msb ^^ b.msb) && (a.msb ^^ (BitVec.ofNat 8 (addDecMid a b c)).msb)) := by
  have hsame : decide ((a ^^^ b) &&& 0x80 = 0) = !(a.msb ^^ b.msb) := by
    rw [← BitVec.msb_xor, ← decide_and_signMask_ne_zero]
    simp
  simp only [addDec, hsame, decide_and_signMask_ne_zero, BitVec.msb_xor, Bool.and_comm]

theorem addDec_z_iff : (addDec a b c).z = true ↔ a + b + BitVec.ofNat 8 c.toNat = 0 := by
  rw [← addBin_r, ← BitVec.toNat_inj, addBin_r_toNat]
  simp [addDec, carryNat_eq_toNat]

/-- The low digit of a decimal difference, from the low digits and the carry. -/
def diffDigit (al bl : Nat) (c : Bool) : Nat :=
  if al + c.toNat < bl + 1 then (al + c.toNat + 25 - bl) % 16 else al + c.toNat - (bl + 1)

/-- The borrow out of the low digits of a decimal difference. -/
def diffHalf (al bl : Nat) (c : Bool) : Nat := (decide (al + c.toNat < bl + 1)).toNat

/-- The high digit of a decimal difference, from the difference of the high digits with 32 added. -/
def diffHigh (hi : Nat) : Nat := if hi < 32 then hi - 6 else hi

theorem diffDigit_lt (hal : al < 16) : diffDigit al bl c < 16 := by
  have hc := c.toNat_le
  unfold diffDigit
  split <;> omega

theorem diffHalf_le : diffHalf al bl c ≤ 1 := Bool.toNat_le _

include ha hb in
theorem subDecLow_eq : subDecLow a b c = diffDigit al bl c - 16 * diffHalf al bl c := by
  have hc := c.toNat_le
  have hal := ha.low_lt
  have hbl := hb.low_lt
  simp only [subDecLow, ha.toNat_and_lowMask, hb.toNat_and_lowMask, carryNat_eq_toNat, diffDigit, diffHalf,
    toNat_decide]
  split_ifs <;> omega

include ha hb in
theorem subDec_r (hah : ah < 16) (hbh : bh < 16) : (subDec a b c).r =
    BitVec.ofNat 8 (16 * diffHigh (ah + 32 - bh - diffHalf al bl c) + diffDigit al bl c) := by
  have hhalf : diffHalf al bl c ≤ 1 := diffHalf_le
  have hdigit : diffDigit al bl c < 16 := diffDigit_lt ha.low_lt
  apply BitVec.eq_of_toNat_eq
  simp only [subDec, subDecLow_eq ha hb, ha.toNat_and_highMask, hb.toNat_and_highMask, diffHigh, BitVec.toNat_ofInt,
    BitVec.toNat_ofNat]
  split <;> split <;> omega

end

/-! ### The flags of a subtraction, binary or decimal (R453, R454) -/

section
variable (a b : Byte) (c : Bool)

theorem subBin_c_iff : (subBin a b c).c = true ↔ b.toNat + 1 ≤ a.toNat + c.toNat := by
  simp only [subBin, carryNat_eq_toNat, decide_eq_true_iff]
  omega

theorem subBin_n_iff : (subBin a b c).n = true ↔ (a - b - BitVec.ofNat 8 (1 - c.toNat)).toInt < 0 := by
  rw [← subBin_r, ← decide_eq_true_iff (p := _ < _), ← BitVec.msb_eq_toInt, ← bit_seven]
  rfl

theorem toInt_not_byte : (~~~b).toInt = -b.toInt - 1 := by
  have hb := b.isLt
  have hnot : (~~~b).toNat = 255 - b.toNat := BitVec.toNat_not
  rw [toInt_eq_of_sign, toInt_eq_of_sign, hnot]
  omega

theorem subBin_v_iff : (subBin a b c).v = true ↔
    a.toInt - b.toInt - (1 - c.toNat) < -128 ∨ 127 < a.toInt - b.toInt - (1 - c.toNat) := by
  rw [subBin_eq_addBin_not, addBin_v_iff, toInt_not_byte]
  omega

theorem subBin_z_iff : (subBin a b c).z = true ↔ a - b = BitVec.ofNat 8 (1 - c.toNat) := by
  have hz : (subBin a b c).z = decide ((subBin a b c).r = 0) := rfl
  rw [hz, decide_eq_true_iff, subBin_r, sub_eq_zero]

end

/-! ### Valid decimal digits (R485) -/

theorem decimal_digits (h : Nat) {d : Nat} (hd : d < 10) :
    (10 * h + d) % 100 / 10 = h % 10 ∧ (10 * h + d) % 10 = d := by omega

/-- The high digit's correction makes the two digits of a sum below 200 decimal, modulo 100. -/
theorem ofNat_sumHigh_eq_bcd {hi digit : Nat} (hhi : hi < 20) (hd : digit < 10) :
    BitVec.ofNat 8 (16 * sumHigh hi + digit) =
      BitVec.ofNat 8 (16 * ((10 * hi + digit) % 100 / 10) + (10 * hi + digit) % 10) := by
  obtain ⟨htens, hunits⟩ := decimal_digits hi hd
  apply BitVec.eq_of_toNat_eq
  simp only [htens, hunits, sumHigh, BitVec.toNat_ofNat]
  split
  · have hten : hi % 10 = hi - 10 := by omega
    rw [hten]
    omega
  · have hten : hi % 10 = hi := by omega
    rw [hten]

/-- The high digit's correction makes the two digits of a difference decimal, modulo 100. -/
theorem ofNat_diffHigh_eq_bcd {hi digit : Nat} (hlo : 22 ≤ hi) (hhi : hi < 42) (hd : digit < 10) :
    BitVec.ofNat 8 (16 * diffHigh hi + digit) =
      BitVec.ofNat 8 (16 * ((10 * (hi - 22) + digit) % 100 / 10) + (10 * (hi - 22) + digit) % 10) := by
  obtain ⟨htens, hunits⟩ := decimal_digits (hi - 22) hd
  apply BitVec.eq_of_toNat_eq
  simp only [htens, hunits, diffHigh, BitVec.toNat_ofNat]
  split
  · have hten : (hi - 22) % 10 = hi - 22 := by omega
    rw [hten]
    omega
  · have hten : (hi - 22) % 10 = hi - 32 := by omega
    rw [hten]
    omega

/-- Below 20 the corrected digit and its carry are the sum's two decimal digits. -/
theorem ten_mul_sumHalf_add_sumDigit {low : Nat} (h : low < 20) :
    10 * sumHalf low + sumDigit low = low ∧ sumDigit low < 10 := by
  rw [sumHalf, sumDigit, toNat_decide]
  split <;> omega

/-- On decimal digits the corrected digit is the difference with ten added for a borrow. -/
theorem diffDigit_eq_of_decimal {al bl : Nat} {c : Bool} (hal : al < 10) (hbl : bl < 10) :
    diffDigit al bl c + bl + 1 = al + c.toNat + 10 * diffHalf al bl c ∧ diffDigit al bl c < 10 := by
  have hc := c.toNat_le
  rw [diffHalf, diffDigit, toNat_decide]
  split <;> omega

section
variable {a b : Byte} {c : Bool} {ah al bh bl : Nat} (ha : HasDigits a ah al) (hb : HasDigits b bh bl) (hah : ah < 10)
  (hal : al < 10) (hbh : bh < 10) (hbl : bl < 10)
include ha hb hah hal hbh hbl

/-- On valid digits a decimal sum is the sum modulo 100. -/
theorem addDec_bcd :
    let sum := 10 * ah + al + (10 * bh + bl) + c.toNat
    (addDec a b c).r = BitVec.ofNat 8 (16 * (sum % 100 / 10) + sum % 10) ∧ ((addDec a b c).c = true ↔ 100 ≤ sum) := by
  intro sum
  have hc := c.toNat_le
  obtain ⟨hdigits, hdigit⟩ := ten_mul_sumHalf_add_sumDigit (low := al + bl + c.toNat) (by omega)
  have hsum : sum = 10 * (ah + bh + sumHalf (al + bl + c.toNat)) + sumDigit (al + bl + c.toNat) := by omega
  have hmid := addDecMid_eq (c := c) ha hb
  rw [addDec_r hmid (sumDigit_lt _), addDec_c_iff hmid (sumDigit_lt _), ofNat_sumHigh_eq_bcd (by omega) hdigit, hsum]
  exact ⟨rfl, by omega⟩

/-- On valid digits a decimal difference is the difference modulo 100. -/
theorem subDec_bcd :
    let x := 10 * ah + al
    let y := 10 * bh + bl
    let diff := x + 100 + c.toNat - 1 - y
    (subDec a b c).r = BitVec.ofNat 8 (16 * (diff % 100 / 10) + diff % 10) ∧
    ((subDec a b c).c = true ↔ y + 1 ≤ x + c.toNat) := by
  intro x y diff
  have hhalf : diffHalf al bl c ≤ 1 := diffHalf_le
  obtain ⟨hdigits, hdigit⟩ := diffDigit_eq_of_decimal (c := c) hal hbl
  have hdiff : diff = 10 * (ah + 32 - bh - diffHalf al bl c - 22) + diffDigit al bl c := by omega
  rw [subDec_r ha hb (by omega) (by omega), ofNat_diffHigh_eq_bcd (by omega) (by omega) hdigit, hdiff]
  refine ⟨rfl, (subBin_c_iff a b c).trans ?_⟩
  rw [ha.toNat_eq, hb.toNat_eq]
  omega

end

/-- Settles O47: the digits of either result, the flags of the exact binary difference, then the digits on valid operands. -/
theorem decimalAdderFlagsAndDigits : Obligations.DecimalAdderFlagsAndDigits := by
  refine ⟨fun ah al bh bl c => ?_, fun ah al bh bl c => ?_, fun a b c => ?_, fun ah al bh bl c => ?_⟩
  · have ha := hasDigits_ofNat ah.isLt al.isLt
    have hb := hasDigits_ofNat bh.isLt bl.isLt
    have hmid := addDecMid_eq (c := c) ha hb
    have hd := sumDigit_lt (al + bl + c.toNat)
    simp only [decide_eq_true_iff]
    refine ⟨addDec_r hmid hd, addDec_c_iff hmid hd, addDec_n_iff hmid hd, ?_, addDec_z_iff⟩
    rw [addDec_v, sameSign_and_otherSign_iff, ha.msb_iff, hb.msb_iff, msb_addDecMid_iff hmid hd]
    rfl
  · have ha := hasDigits_ofNat ah.isLt al.isLt
    have hb := hasDigits_ofNat bh.isLt bl.isLt
    simp only [decide_eq_true_iff]
    exact subDec_r ha hb ah.isLt bh.isLt
  · exact ⟨subBin_c_iff a b c, subBin_n_iff a b c, subBin_v_iff a b c, subBin_z_iff a b c⟩
  · have ha := hasDigits_ofNat (h := ah) (l := al) (by omega) (by omega)
    have hb := hasDigits_ofNat (h := bh) (l := bl) (by omega) (by omega)
    obtain ⟨hsum, hcarry⟩ := addDec_bcd (c := c) ha hb ah.isLt al.isLt bh.isLt bl.isLt
    obtain ⟨hdiff, hborrow⟩ := subDec_bcd (c := c) ha hb ah.isLt al.isLt bh.isLt bl.isLt
    exact ⟨hsum, hcarry, hdiff, hborrow⟩

end Sys2Proof.Machine
end

section
/-! PROOFS. The arithmetic, logic, compare, shift and flag instructions (R456 to R482, R615): class M and the accumulator mode by
the rules of their cycles, and what each operation does to the registers. -/

namespace Sys2Proof.Machine

variable {s : State} {i : Instr} {op zp index : Byte} {addr : Word}

/-! ### Addition and subtraction (R456, R457, R615) -/

theorem opAdc_eq_withRegs (m : Byte) (u : State) : opAdc m u = u.withRegs (u.regs.adc m) := rfl

theorem opSbc_eq_withRegs (m : Byte) (u : State) : opSbc m u = u.withRegs (u.regs.sbc m) := rfl

/-- Settles O26: each form is its mode's rule for class R, or the immediate one, with the adder's effect. -/
theorem addAndSubtractComplete : Obligations.AddAndSubtractComplete := by
  intro s imm8 zp8 addr16
  exact ⟨reads_izx opAdc_eq_withRegs rfl rfl, reads_zp opAdc_eq_withRegs rfl rfl,
    readsImm_of_effect rfl rfl opAdc_eq_withRegs, reads_abs opAdc_eq_withRegs rfl rfl,
    reads_izy opAdc_eq_withRegs rfl rfl, reads_zpIndexed opAdc_eq_withRegs rfl rfl,
    reads_absIndexed opAdc_eq_withRegs rfl rfl, reads_absIndexed opAdc_eq_withRegs rfl rfl,
    reads_izx opSbc_eq_withRegs rfl rfl, reads_zp opSbc_eq_withRegs rfl rfl,
    readsImm_of_effect rfl rfl opSbc_eq_withRegs, reads_abs opSbc_eq_withRegs rfl rfl,
    reads_izy opSbc_eq_withRegs rfl rfl, reads_zpIndexed opSbc_eq_withRegs rfl rfl,
    reads_absIndexed opSbc_eq_withRegs rfl rfl, reads_absIndexed opSbc_eq_withRegs rfl rfl,
    readsImm_of_effect rfl rfl opSbc_eq_withRegs⟩

/-! ### Logic (R458 to R460) -/

theorem opAnd_eq_withRegs (m : Byte) (u : State) : opAnd m u = u.withRegs (u.regs.and m) := rfl

theorem opOra_eq_withRegs (m : Byte) (u : State) : opOra m u = u.withRegs (u.regs.ora m) := rfl

theorem opEor_eq_withRegs (m : Byte) (u : State) : opEor m u = u.withRegs (u.regs.eor m) := rfl

/-- Settles O27: each form is its mode's rule for class R, or the immediate one, with A's combination loaded. -/
theorem logicCompletes : Obligations.LogicCompletes := by
  intro s imm8 zp8 addr16
  exact ⟨reads_izx opAnd_eq_withRegs rfl rfl, reads_zp opAnd_eq_withRegs rfl rfl,
    readsImm_of_effect rfl rfl opAnd_eq_withRegs, reads_abs opAnd_eq_withRegs rfl rfl,
    reads_izy opAnd_eq_withRegs rfl rfl, reads_zpIndexed opAnd_eq_withRegs rfl rfl,
    reads_absIndexed opAnd_eq_withRegs rfl rfl, reads_absIndexed opAnd_eq_withRegs rfl rfl,
    reads_izx opOra_eq_withRegs rfl rfl, reads_zp opOra_eq_withRegs rfl rfl,
    readsImm_of_effect rfl rfl opOra_eq_withRegs, reads_abs opOra_eq_withRegs rfl rfl,
    reads_izy opOra_eq_withRegs rfl rfl, reads_zpIndexed opOra_eq_withRegs rfl rfl,
    reads_absIndexed opOra_eq_withRegs rfl rfl, reads_absIndexed opOra_eq_withRegs rfl rfl,
    reads_izx opEor_eq_withRegs rfl rfl, reads_zp opEor_eq_withRegs rfl rfl,
    readsImm_of_effect rfl rfl opEor_eq_withRegs, reads_abs opEor_eq_withRegs rfl rfl,
    reads_izy opEor_eq_withRegs rfl rfl, reads_zpIndexed opEor_eq_withRegs rfl rfl,
    reads_absIndexed opEor_eq_withRegs rfl rfl, reads_absIndexed opEor_eq_withRegs rfl rfl⟩

/-! ### Compares and BIT (R461 to R464) -/

theorem opCmp_eq_withRegs (m : Byte) (u : State) : opCmp m u = u.withRegs (u.regs.cmp m) := rfl

theorem opCpx_eq_withRegs (m : Byte) (u : State) : opCpx m u = u.withRegs (u.regs.cpx m) := rfl

theorem opCpy_eq_withRegs (m : Byte) (u : State) : opCpy m u = u.withRegs (u.regs.cpy m) := rfl

theorem opBit_eq_withRegs (m : Byte) (u : State) : opBit m u = u.withRegs (u.regs.bit m) := rfl

/-- Settles O28: each form is its mode's rule for class R, or the immediate one, with an effect on the flags alone. -/
theorem comparesAndBitComplete : Obligations.ComparesAndBitComplete := by
  intro s imm8 zp8 addr16
  exact ⟨reads_izx opCmp_eq_withRegs rfl rfl, reads_zp opCmp_eq_withRegs rfl rfl,
    readsImm_of_effect rfl rfl opCmp_eq_withRegs, reads_abs opCmp_eq_withRegs rfl rfl,
    reads_izy opCmp_eq_withRegs rfl rfl, reads_zpIndexed opCmp_eq_withRegs rfl rfl,
    reads_absIndexed opCmp_eq_withRegs rfl rfl, reads_absIndexed opCmp_eq_withRegs rfl rfl,
    readsImm_of_effect rfl rfl opCpx_eq_withRegs, reads_zp opCpx_eq_withRegs rfl rfl,
    reads_abs opCpx_eq_withRegs rfl rfl,
    readsImm_of_effect rfl rfl opCpy_eq_withRegs, reads_zp opCpy_eq_withRegs rfl rfl,
    reads_abs opCpy_eq_withRegs rfl rfl,
    reads_zp opBit_eq_withRegs rfl rfl, reads_abs opBit_eq_withRegs rfl rfl⟩

/-! ### Class M by addressing mode, and the accumulator mode (R352, R354, R355, R357, R358) -/

/-- The operation of an instruction of class M, or of the accumulator mode, is `f` of the registers and the operand: the byte it
writes and the registers it leaves. -/
def ActsAs (result : Byte → State → Byte) (effect : Byte → State → State) (f : Regs → Byte → Byte × Regs) : Prop :=
  ∀ m u, result m u = (f u.regs m).1 ∧ effect m u = u.withRegs (f u.regs m).2

section
variable {result : Byte → State → Byte} {effect : Byte → State → State} {f : Regs → Byte → Byte × Regs}
  (hf : ActsAs result effect f)
include hf

theorem accumulator_of_actsAs (henc : encode i = [op]) (hexec : exec i s = .next (accumulator op result effect s)) :
    Implied i s op (Regs.onA f) := by
  refine implied_of_effect henc hexec fun u => ?_
  obtain ⟨hresult, heffect⟩ := hf u.a u
  rw [hresult, heffect]
  rfl

variable (w : s.mem.wf = true)
include w

theorem modifies_of_actsAs {t : State} {m : Access} (h : AtOperand s t m) (henc : encode i = m.code)
    (hexec : exec i s = .next (t.modifyTail m.ea result effect)) : Modifies i s m f :=
  modifies_of_head w h henc hexec (fun v u => (hf v u).left) fun v u => (hf v u).right

theorem modifies_zp (henc : encode i = [op, zp]) (hexec : exec i s = .next (modifyZp op zp result effect s)) :
    Modifies i s (s.viaZp op zp) f :=
  modifies_of_actsAs hf w (atOperand_zp s op zp) henc hexec

theorem modifies_zpIndexed (henc : encode i = [op, zp])
    (hexec : exec i s = .next ((s.headZpIndexed op zp).modifyTail (zpAddr (zp + index)) result effect)) :
    Modifies i s (s.viaZpIndexed op zp index) f :=
  modifies_of_actsAs hf w (atOperand_zpIndexed s op zp index) henc hexec

theorem modifies_abs (henc : encode i = code3 op addr) (hexec : exec i s = .next (modifyAbs op addr result effect s)) :
    Modifies i s (s.viaAbs op addr) f :=
  modifies_of_actsAs hf w (atOperand_abs s op addr) henc hexec

theorem modifies_absIndexed (henc : encode i = code3 op addr)
    (hexec : exec i s = .next ((s.headAbsFixed op addr index).modifyTail (indexed addr index) result effect)) :
    Modifies i s (s.viaAbsIndexed op addr index) f :=
  modifies_of_actsAs hf w (atOperand_absFixed s op addr index) henc hexec

end

/-! ### Increments and decrements (R465 to R470) -/

theorem inc_actsAs : ActsAs incResult opInc Regs.inc := fun _ _ => ⟨rfl, rfl⟩

theorem dec_actsAs : ActsAs decResult opDec Regs.dec := fun _ _ => ⟨rfl, rfl⟩

/-- Settles O29: a memory form is its mode's rule for class M, and a register form is implied. -/
theorem incrementsAndDecrementsComplete : Obligations.IncrementsAndDecrementsComplete := by
  intro s zp8 addr16 w
  have hinx (u : State) : opInx u = u.withRegs ({ u.regs with x := u.x + 1 }.nz (u.x + 1)) := rfl
  have hiny (u : State) : opIny u = u.withRegs ({ u.regs with y := u.y + 1 }.nz (u.y + 1)) := rfl
  have hdex (u : State) : opDex u = u.withRegs ({ u.regs with x := u.x - 1 }.nz (u.x - 1)) := rfl
  have hdey (u : State) : opDey u = u.withRegs ({ u.regs with y := u.y - 1 }.nz (u.y - 1)) := rfl
  exact ⟨modifies_zp inc_actsAs w rfl rfl, modifies_abs inc_actsAs w rfl rfl,
    modifies_zpIndexed inc_actsAs w rfl rfl, modifies_absIndexed inc_actsAs w rfl rfl,
    modifies_zp dec_actsAs w rfl rfl, modifies_abs dec_actsAs w rfl rfl,
    modifies_zpIndexed dec_actsAs w rfl rfl, modifies_absIndexed dec_actsAs w rfl rfl,
    implied_of_effect rfl rfl hinx, implied_of_effect rfl rfl hiny, implied_of_effect rfl rfl hdex,
    implied_of_effect rfl rfl hdey⟩

/-! ### Shifts and rotates (R471 to R474, R483) -/

/-- The carry enters bit 7 as a shifted byte or as the byte $80. -/
theorem ror_eq (m : Byte) (c : Bool) : ror m c = (rorByte m c, m.getLsbD 0) := by cases c <;> rfl

theorem asl_actsAs : ActsAs aslResult opAsl Regs.asl := fun _ _ => ⟨rfl, rfl⟩

theorem lsr_actsAs : ActsAs lsrResult opLsr Regs.lsr := fun _ _ => ⟨rfl, rfl⟩

theorem rol_actsAs : ActsAs rolResult opRol Regs.rol := fun _ _ => ⟨rfl, rfl⟩

theorem ror_actsAs : ActsAs rorResult opRor Regs.ror := fun m u => by
  rw [rorResult, opRor, ror_eq]
  exact ⟨rfl, rfl⟩

/-- Settles O30: each form is the accumulator's rule or its mode's rule for class M. -/
theorem shiftsComplete : Obligations.ShiftsComplete := by
  intro s zp8 addr16 w
  exact ⟨accumulator_of_actsAs asl_actsAs rfl rfl, modifies_zp asl_actsAs w rfl rfl, modifies_abs asl_actsAs w rfl rfl,
    modifies_zpIndexed asl_actsAs w rfl rfl, modifies_absIndexed asl_actsAs w rfl rfl,
    accumulator_of_actsAs lsr_actsAs rfl rfl, modifies_zp lsr_actsAs w rfl rfl, modifies_abs lsr_actsAs w rfl rfl,
    modifies_zpIndexed lsr_actsAs w rfl rfl, modifies_absIndexed lsr_actsAs w rfl rfl,
    accumulator_of_actsAs rol_actsAs rfl rfl, modifies_zp rol_actsAs w rfl rfl, modifies_abs rol_actsAs w rfl rfl,
    modifies_zpIndexed rol_actsAs w rfl rfl, modifies_absIndexed rol_actsAs w rfl rfl,
    accumulator_of_actsAs ror_actsAs rfl rfl, modifies_zp ror_actsAs w rfl rfl, modifies_abs ror_actsAs w rfl rfl,
    modifies_zpIndexed ror_actsAs w rfl rfl, modifies_absIndexed ror_actsAs w rfl rfl⟩

/-! ### The flag instructions and NOP (R475 to R482) -/

/-- Settles O31: each is implied, with an effect on one flag alone or none. -/
theorem flagInstructionsAndNopComplete : Obligations.FlagInstructionsAndNopComplete := by
  intro s
  have hclc (u : State) : opClc u = { u with p := { u.p with c := false } } := rfl
  have hsec (u : State) : opSec u = { u with p := { u.p with c := true } } := rfl
  have hcli (u : State) : opCli u = { u with p := { u.p with i := false } } := rfl
  have hsei (u : State) : opSei u = { u with p := { u.p with i := true } } := rfl
  have hcld (u : State) : opCld u = { u with p := { u.p with d := false } } := rfl
  have hsed (u : State) : opSed u = { u with p := { u.p with d := true } } := rfl
  have hclv (u : State) : opClv u = { u with p := { u.p with v := false } } := rfl
  have hnop (u : State) : opNop u = u := rfl
  exact ⟨implied_of_effect rfl rfl hclc, implied_of_effect rfl rfl hsec, implied_of_effect rfl rfl hcli,
    implied_of_effect rfl rfl hsei, implied_of_effect rfl rfl hcld, implied_of_effect rfl rfl hsed,
    implied_of_effect rfl rfl hclv, implied_of_effect rfl rfl hnop⟩

end Sys2Proof.Machine
end

section
/-! PROOFS. The jumps, the call and the return, each as its transactions (R363, R366, R367, R370), and the return from a call
(R522, R523). -/

namespace Sys2Proof.Machine

variable {s : State} {addr : Word}

/-! ### The jumps (R520, R521) -/

theorem jmpAbs_completes (s : State) (addr : Word) :
    Completes (.jmpAbs addr) s
      { code := code3 0x4C addr, bus := s.fetches (code3 0x4C addr), regs := s.regs, pc := addr } := by
  have hl : s.Legible (s.fetches (code3 0x4C addr)) := .inr (by simp [State.fetches, code3, rd])
  have h2 := atOperand_fetch2 s 0x4C (loByte addr) 0
  have hpc : (s.fetch2 0x4C (loByte addr)).poll.pc = s.pc + 2 := (State.poll_pc _).trans h2.pc
  have h3 := (h2.after.thenSilent (.poll _)).trans (.read _ (s.pc + 2) (hiByte addr))
  have hexec : exec (.jmpAbs addr) s = .next
      (((s.fetch2 0x4C (loByte addr)).poll.readCycleAs (s.pc + 2) (hiByte addr)).setPc addr).endInstr := by
    rw [← hpc]
    rfl
  exact completes_of_after rfl hexec (h3.thenSilent (.setPc _ _)) hl ((State.poll_regs _).trans h2.regs) rfl
    ((State.poll_lastOpcodeAddr _).trans h2.last)

theorem jmpInd_completes (s : State) (ptr : Word) :
    let j3 := s.fetches (code3 0x6C ptr)
    let j4 := s.reads j3 [ptr]
    Completes (.jmpInd ptr) s
      { code := code3 0x6C ptr
        bus := s.reads j4 [nextInPage ptr]
        regs := s.regs
        pc := mkWord (s.seen j4 (nextInPage ptr)) (s.seen j3 ptr) } := by
  intro j3 j4
  have h3 := atOperand_abs s 0x6C ptr
  have hl : s.Legible j3 := .inr h3.reads
  have h4 : After s ((s.fetch3 0x6C ptr).readCycle ptr).poll j4 := (h3.after.readNext hl rfl).thenSilent (.poll _)
  have hpc := congrArg₂ mkWord (h4.busRead (hl.reads [_]) (nextInPage ptr)) h3.operand
  exact completes_of_after rfl rfl ((h4.readNext (hl.reads [_]) (addr := nextInPage ptr) rfl).thenSilent (.setPc _ _))
    (hl.reads [_, _]) ((State.poll_regs _).trans h3.regs) hpc ((State.poll_lastOpcodeAddr _).trans h3.last)

/-! ### The call (R522) -/

/-- The pushes of a call: the address `ret`, high byte first. -/
def callPushes (sp : Byte) (ret : Word) : List Bus :=
  [wr (stackAddr sp) (hiByte ret), wr (stackAddr (sp - 1)) (loByte ret)]

/-- A call pushes its PC. -/
theorem After.pushReturn {t : State} {bus : List Bus} (h : After s t bus) :
    After s ((t.pushCycle (hiByte t.pc)).pushCycle (loByte t.pc)) (bus ++ callPushes t.sp t.pc) :=
  h.trans ((After.push t _).trans (.push _ _))

/-- The transactions of JSR before its last cycle. -/
def State.callBus (s : State) (op lo : Byte) : List Bus :=
  s.reads (s.fetches [op, lo]) [stackAddr s.sp] ++ callPushes s.sp (s.pc + 2)

theorem after_headJsr (s : State) (op lo : Byte) : After s (s.headJsr op lo) (s.callBus op lo) := by
  have h2 := atOperand_fetch2 s op lo 0
  have h3 : After s ((s.fetch2 op lo).readCycle s.stackTop) (s.reads (s.fetches [op, lo]) [stackAddr s.sp]) :=
    h2.after.readNext (.inr h2.reads) rfl
  have hpc : ((s.fetch2 op lo).readCycle s.stackTop).pc = s.pc + 2 := h2.pc
  rw [State.callBus, ← hpc]
  exact h3.pushReturn.thenSilent (.poll _)

theorem State.headJsr_regs (s : State) (op lo : Byte) : (s.headJsr op lo).regs = { s.regs with sp := s.sp - 2 } := by
  have hsp : s.sp - 1 - 1 = s.sp - 2 := by bv_omega
  simpa [State.headJsr, State.regs] using hsp

/-- The high operand byte that JSR fetches, as its transactions give it. -/
theorem jsrHigh_eq (w : s.mem.wf = true) (op lo hi : Byte) :
    jsrHigh s (s.headJsr op lo) hi =
      if s.pc + 2 = stackAddr s.sp ∨ s.pc + 2 = stackAddr (s.sp - 1) then s.seen (s.callBus op lo) (s.pc + 2) else hi := by
  rw [jsrHigh, State.headJsr_pc, (after_headJsr s op lo).busRead (.inl w)]

theorem jsr_completes (w : s.mem.wf = true) (addr : Word) :
    let last := s.pc + 2
    let c5 := s.callBus 0x20 (loByte addr)
    let hi := if last = stackAddr s.sp ∨ last = stackAddr (s.sp - 1) then s.seen c5 last else hiByte addr
    Completes (.jsrAbs addr) s
      { code := code3 0x20 addr
        bus := c5 ++ [rd last hi]
        regs := { s.regs with sp := s.sp - 2 }
        pc := mkWord hi (loByte addr) } := by
  intro last c5 hi
  have hexec : exec (.jsrAbs addr) s = .next
      (((s.headJsr 0x20 (loByte addr)).readCycleAs last hi).setPc (mkWord hi (loByte addr))).endInstr := by
    simp only [hi, last, c5, ← jsrHigh_eq w]
    rw [← State.headJsr_pc s 0x20 (loByte addr)]
    rfl
  have h6 := (after_headJsr s 0x20 (loByte addr)).trans (.read _ last hi)
  exact completes_of_after rfl hexec (h6.thenSilent (.setPc _ _)) (.inl w) (State.headJsr_regs _ _ _) rfl
    (by simp [State.headJsr])

/-! ### The return (R523) -/

theorem rts_completes (s : State) :
    let r3 := s.reads [rd s.pc 0x60] [s.pc + 1, stackAddr s.sp]
    let r4 := s.reads r3 [stackAddr (s.sp + 1)]
    let r5 := s.reads r4 [stackAddr (s.sp + 2)]
    let pulled := mkWord (s.seen r4 (stackAddr (s.sp + 2))) (s.seen r3 (stackAddr (s.sp + 1)))
    Completes .rts s
      { code := [0x60]
        bus := s.reads r5 [pulled]
        regs := { s.regs with sp := s.sp + 2 }
        pc := pulled + 1 } := by
  intro r3 r4 r5 pulled
  have hl : s.Legible [rd s.pc 0x60] := .inr (by simp [rd])
  have hsp : s.sp + 1 + 1 = s.sp + 2 := by bv_omega
  have h3 : After s _ r3 := ((after_opcodeDummy s 0x60).topNext (hl.reads _) (sp := s.sp) rfl).thenSilent (.incSp _)
  have hlo := h3.busRead_stackTop (hl.reads [_, _]) (sp := s.sp + 1) rfl
  have h4 : After s _ r4 := (h3.topNext (hl.reads [_, _]) (sp := s.sp + 1) rfl).thenSilent (.incSp _)
  have hhi := h4.busRead_stackTop (hl.reads [_, _, _]) hsp
  have h5 : After s _ r5 := ((h4.topNext (hl.reads [_, _, _]) hsp).thenSilent (.setPc _ pulled)).thenSilent (.poll _)
  have h6 := (h5.dummyNext (hl.reads [_, _, _, _]) (State.poll_pc _)).thenSilent (.incPc _)
  have hexec : exec .rts s = .next (rts 0x60 s) := rfl
  unfold rts at hexec
  dsimp only at hexec
  rw [hlo, hhi] at hexec
  exact completes_of_after rfl hexec h6 (hl.reads [_, _, _, _, _]) (by simp [State.regs, BitVec.add_assoc])
    (by simp [pulled]) (by simp)

/-- Settles O32: each is its fetches and dummy reads with a jump at the end; a call's last fetch sees what its pushes left. -/
theorem jumpsCallsAndReturnsComplete : Obligations.JumpsCallsAndReturnsComplete := fun s addr w =>
  ⟨jmpAbs_completes s addr, jmpInd_completes s addr, jsr_completes w addr, rts_completes s⟩

/-! ### A return after a call -/

/-- Read cycles change no byte of memory. -/
@[simp] theorem State.byteAfter_reads (s : State) (a : Nat) (bus : List Bus) (addrs : List Word) (v : Byte) :
    s.byteAfter a (s.reads bus addrs) v = s.byteAfter a bus v := by
  induction addrs generalizing bus with
  | nil => rfl
  | cons addr rest ih => rw [State.reads, ih, State.byteAfter_append]; rfl

/-- With AEC high a read of RAM after cycles that only read sees memory's byte (R103). -/
theorem State.seen_reads_of_ram (haec : s.aecLow = false) (hram : s.regionAt addr = .ram) (a : Word) (v : Byte)
    (addrs : List Word) : s.seen (s.reads [rd a v] addrs) addr = s.mem.read addr.toNat := by
  simp [State.seen, haec, hram, State.byteAfter, rd]

theorem mkWord_hiByte_loByte (w : Word) : mkWord (hiByte w) (loByte w) = w := by
  rw [mkWord, hiByte, loByte, BitVec.extractLsb'_append_extractLsb'_eq_extractLsb' (by decide)]
  exact BitVec.extractLsb'_eq_self

theorem toNat_stackAddr_inj {a b : Byte} : (stackAddr a).toNat = (stackAddr b).toNat ↔ a = b :=
  BitVec.toNat_inj.trans (BitVec.append_right_inj _)

/-- Where the stack page is RAM, the two pushes of a call leave the return address there, wherever SP stands (R106). -/
theorem State.byteAfter_call (haec : s.aecLow = false) (hram : ∀ b : Byte, s.regionAt (stackAddr b) = .ram)
    (op lo hi v : Byte) :
    let bus := s.callBus op lo ++ [rd (s.pc + 2) hi]
    s.byteAfter (stackAddr s.sp).toNat bus v = hiByte (s.pc + 2) ∧
    s.byteAfter (stackAddr (s.sp - 1)).toNat bus v = loByte (s.pc + 2) := by
  simp [State.callBus, callPushes, State.byteAfter_append, State.byteAfter, State.keeps, haec, hram, rd, wr,
    toNat_stackAddr_inj]

/-- Settles O48: RTS pulls the two bytes that JSR pushed, the address of the call's last byte. -/
theorem callThenReturnResumes : Obligations.CallThenReturnResumes := by
  intro s t u addr w haec hram hjsr hrts
  have hlow : s.aecLow = false := by simp [State.aecLow, haec]
  obtain ⟨-, t', ht, htregs, -, -, -, htmem, -, -, -, -, -, hout⟩ := jsr_completes w addr
  cases ht.symm.trans hjsr
  obtain ⟨-, u', hu, huregs, hupc, -⟩ := rts_completes t
  cases hu.symm.trans hrts
  have hsp : t.sp = s.sp - 2 := congrArg Regs.sp htregs
  have hsp1 : t.sp + 1 = s.sp - 1 := by bv_omega
  have hsp2 : t.sp + 2 = s.sp := by bv_omega
  have hseen (b : Byte) (addrs : List Word) :
      t.seen (t.reads [rd t.pc 0x60] addrs) (stackAddr b) = t.mem.read (stackAddr b).toNat :=
    State.seen_reads_of_ram (hout.aecLow.trans hlow) ((hout.regionAt _).trans (hram b)) _ _ addrs
  have hlo := (hseen (s.sp - 1) [t.pc + 1, stackAddr t.sp]).trans
    ((htmem _).trans (State.byteAfter_call hlow hram _ _ _ _).2)
  have hhi := (hseen s.sp [t.pc + 1, stackAddr t.sp, stackAddr (s.sp - 1)]).trans
    ((htmem _).trans (State.byteAfter_call hlow hram _ _ _ _).1)
  constructor
  · calc u.pc = mkWord _ _ + 1 := hupc
      _ = mkWord (hiByte (s.pc + 2)) (loByte (s.pc + 2)) + 1 := by
        rw [hsp1, hsp2]
        exact congrArg₂ (mkWord · · + 1) hhi hlo
      _ = s.pc + 3 := by rw [mkWord_hiByte_loByte, BitVec.add_assoc]; rfl
  · calc u.regs = { t.regs with sp := t.sp + 2 } := huregs
      _ = s.regs := by rw [htregs, hsp2]; rfl

end Sys2Proof.Machine
end

section
/-! PROOFS. The undocumented instructions (46_undocumented.md): class M in the two modes whose address is read from memory, what
each operation does to the registers, and the high-byte stores with the bus and RDY as they should be or not. -/

namespace Sys2Proof.Machine

variable {s t : State} {i : Instr} {op zp index : Byte} {addr : Word}

/-! ### Class M of the modes whose address is read from memory (R360, R361) -/

section
variable {result : Byte → State → Byte} {effect : Byte → State → State} {f : Regs → Byte → Byte × Regs}
  (hf : ActsAs result effect f) (w : s.mem.wf = true)
include hf w

theorem modifies_izx (henc : encode i = [op, zp]) (hexec : exec i s = .next (modifyIzx op zp result effect s)) :
    Modifies i s (s.viaIzx op zp) f :=
  modifies_of_actsAs hf w (atOperand_izx s op zp) henc (modifyIzx_eq s op zp result effect ▸ hexec)

theorem modifies_izy (henc : encode i = [op, zp]) (hexec : exec i s = .next (modifyIzy op zp result effect s)) :
    Modifies i s (s.viaIzy op zp) f :=
  modifies_of_actsAs hf w (atOperand_izyFixed s op zp) henc (modifyIzy_eq s op zp result effect ▸ hexec)

end

/-! ### The combined operations (R601 to R604, R607, R608) -/

theorem slo_actsAs : ActsAs aslResult opSlo Regs.slo := fun _ _ => ⟨rfl, rfl⟩

theorem rla_actsAs : ActsAs rolResult opRla Regs.rla := fun _ _ => ⟨rfl, rfl⟩

theorem sre_actsAs : ActsAs lsrResult opSre Regs.sre := fun _ _ => ⟨rfl, rfl⟩

/-- The addition takes the byte and the carry of the rotate. -/
theorem rra_actsAs : ActsAs rorResult opRra Regs.rra := fun m u => by
  rw [rorResult, opRra, ror_eq]
  exact ⟨rfl, rfl⟩

theorem dcp_actsAs : ActsAs decResult opDcp Regs.dcp := fun _ _ => ⟨rfl, rfl⟩

theorem isc_actsAs : ActsAs incResult opIsc Regs.isc := fun _ _ => ⟨rfl, rfl⟩

/-- Settles O35: each form is its mode's rule for class M, with the first operation's byte and the second's registers. -/
theorem combinedModifiesComplete : Obligations.CombinedModifiesComplete := by
  intro s zp8 addr16 w
  exact ⟨modifies_izx slo_actsAs w rfl rfl, modifies_zp slo_actsAs w rfl rfl, modifies_abs slo_actsAs w rfl rfl,
    modifies_izy slo_actsAs w rfl rfl, modifies_zpIndexed slo_actsAs w rfl rfl,
    modifies_absIndexed slo_actsAs w rfl rfl, modifies_absIndexed slo_actsAs w rfl rfl,
    modifies_izx rla_actsAs w rfl rfl, modifies_zp rla_actsAs w rfl rfl, modifies_abs rla_actsAs w rfl rfl,
    modifies_izy rla_actsAs w rfl rfl, modifies_zpIndexed rla_actsAs w rfl rfl,
    modifies_absIndexed rla_actsAs w rfl rfl, modifies_absIndexed rla_actsAs w rfl rfl,
    modifies_izx sre_actsAs w rfl rfl, modifies_zp sre_actsAs w rfl rfl, modifies_abs sre_actsAs w rfl rfl,
    modifies_izy sre_actsAs w rfl rfl, modifies_zpIndexed sre_actsAs w rfl rfl,
    modifies_absIndexed sre_actsAs w rfl rfl, modifies_absIndexed sre_actsAs w rfl rfl,
    modifies_izx rra_actsAs w rfl rfl, modifies_zp rra_actsAs w rfl rfl, modifies_abs rra_actsAs w rfl rfl,
    modifies_izy rra_actsAs w rfl rfl, modifies_zpIndexed rra_actsAs w rfl rfl,
    modifies_absIndexed rra_actsAs w rfl rfl, modifies_absIndexed rra_actsAs w rfl rfl,
    modifies_izx dcp_actsAs w rfl rfl, modifies_zp dcp_actsAs w rfl rfl, modifies_abs dcp_actsAs w rfl rfl,
    modifies_izy dcp_actsAs w rfl rfl, modifies_zpIndexed dcp_actsAs w rfl rfl,
    modifies_absIndexed dcp_actsAs w rfl rfl, modifies_absIndexed dcp_actsAs w rfl rfl,
    modifies_izx isc_actsAs w rfl rfl, modifies_zp isc_actsAs w rfl rfl, modifies_abs isc_actsAs w rfl rfl,
    modifies_izy isc_actsAs w rfl rfl, modifies_zpIndexed isc_actsAs w rfl rfl,
    modifies_absIndexed isc_actsAs w rfl rfl, modifies_absIndexed isc_actsAs w rfl rfl⟩

/-! ### LAX, LAS and the NOPs (R606, R621, R622) -/

theorem opLax_eq_withRegs (m : Byte) (u : State) : opLax m u = u.withRegs (u.regs.lax m) := rfl

theorem opLas_eq_withRegs (m : Byte) (u : State) : opLas m u = u.withRegs (u.regs.las m) := rfl

theorem opNopRead_eq_withRegs (m : Byte) (u : State) : opNopRead m u = u.withRegs (u.regs.nop m) := rfl

theorem opNop_eq_withRegs (u : State) : opNop u = u.withRegs u.regs := rfl

/-- Settles O36: each form is its mode's rule for class R, the immediate or the implied one; a NOP leaves the registers. -/
theorem laxLasAndReadingNopsComplete : Obligations.LaxLasAndReadingNopsComplete := by
  intro s imm8 zp8 addr16
  exact ⟨reads_izx opLax_eq_withRegs rfl rfl, reads_zp opLax_eq_withRegs rfl rfl, reads_abs opLax_eq_withRegs rfl rfl,
    reads_izy opLax_eq_withRegs rfl rfl, reads_zpIndexed opLax_eq_withRegs rfl rfl,
    reads_absIndexed opLax_eq_withRegs rfl rfl, reads_absIndexed opLas_eq_withRegs rfl rfl,
    reads_zp opNopRead_eq_withRegs rfl rfl, reads_abs opNopRead_eq_withRegs rfl rfl,
    reads_zpIndexed opNopRead_eq_withRegs rfl rfl, reads_absIndexed opNopRead_eq_withRegs rfl rfl,
    reads_zpIndexed opNopRead_eq_withRegs rfl rfl, reads_absIndexed opNopRead_eq_withRegs rfl rfl,
    reads_zp opNopRead_eq_withRegs rfl rfl, reads_zpIndexed opNopRead_eq_withRegs rfl rfl,
    reads_absIndexed opNopRead_eq_withRegs rfl rfl,
    reads_zp opNopRead_eq_withRegs rfl rfl, reads_zpIndexed opNopRead_eq_withRegs rfl rfl,
    reads_absIndexed opNopRead_eq_withRegs rfl rfl,
    readsImm_of_effect rfl rfl opNopRead_eq_withRegs, readsImm_of_effect rfl rfl opNopRead_eq_withRegs,
    readsImm_of_effect rfl rfl opNopRead_eq_withRegs, readsImm_of_effect rfl rfl opNopRead_eq_withRegs,
    reads_zpIndexed opNopRead_eq_withRegs rfl rfl, reads_absIndexed opNopRead_eq_withRegs rfl rfl,
    readsImm_of_effect rfl rfl opNopRead_eq_withRegs,
    reads_zpIndexed opNopRead_eq_withRegs rfl rfl, reads_absIndexed opNopRead_eq_withRegs rfl rfl,
    implied_of_effect rfl rfl opNop_eq_withRegs, implied_of_effect rfl rfl opNop_eq_withRegs,
    implied_of_effect rfl rfl opNop_eq_withRegs, implied_of_effect rfl rfl opNop_eq_withRegs,
    implied_of_effect rfl rfl opNop_eq_withRegs, implied_of_effect rfl rfl opNop_eq_withRegs⟩

/-! ### ARR (R611) -/

section
variable (v l : Byte)

/-- Adding $60 changes the high digit alone. -/
theorem add_60_and_highMask : (v + 0x60) &&& 0xF0 = (v &&& 0xF0) + 0x60 := by
  revert v
  decide

/-- A byte is its two digits. -/
theorem digits_or : (v &&& 0xF0) ||| (v &&& 0x0F) = v := by
  rw [← BitVec.and_or_distrib_left]
  exact BitVec.and_allOnes

theorem joinDigits_and_highMask : ((v &&& 0xF0) ||| (l &&& 0x0F)) &&& 0xF0 = v &&& 0xF0 := by
  rw [BitVec.and_or_distrib_right, BitVec.and_assoc, BitVec.and_assoc]
  simp

theorem joinDigits_and_lowMask : ((v &&& 0xF0) ||| (l &&& 0x0F)) &&& 0x0F = l &&& 0x0F := by
  rw [BitVec.and_or_distrib_right, BitVec.and_assoc, BitVec.and_assoc]
  simp

end

section
variable (t v : Byte)

theorem arrFixLow_and_highMask : arrFixLow t v &&& 0xF0 = v &&& 0xF0 := by
  unfold arrFixLow
  split
  · exact joinDigits_and_highMask v (v + 0x06)
  · rfl

theorem arrFixLow_and_lowMask :
    arrFixLow t v &&& 0x0F =
      if (t &&& 0x0F).toNat + (t &&& 0x01).toNat > 0x05 then (v + 0x06) &&& 0x0F else v &&& 0x0F := by
  unfold arrFixLow
  split
  · exact joinDigits_and_lowMask v (v + 0x06)
  · rfl

/-- The high-digit fix-up after the low one, digit by digit. -/
theorem arrFixHigh_eq :
    (if arrHigh t then (arrFixLow t v &&& 0x0F) ||| ((arrFixLow t v + 0x60) &&& 0xF0) else arrFixLow t v) =
      (if arrHigh t then (v + 0x60) &&& 0xF0 else v &&& 0xF0) ||| (arrFixLow t v &&& 0x0F) := by
  split
  · rw [add_60_and_highMask, arrFixLow_and_highMask, ← add_60_and_highMask, BitVec.or_comm]
  · rw [← arrFixLow_and_highMask t v, digits_or]

end

/-- The rotate right of ARR, as the byte ROR makes. -/
theorem ror_fst_eq (v : Byte) (c : Bool) : (v >>> 1) ||| (carryByte c <<< 7) = rorByte v c := congrArg Prod.fst (ror_eq v c)

theorem Regs.arrBin_eq (r : Regs) (m : Byte) : r.arrBin m = r.alu (Machine.arrBin (r.a &&& m) r.p.c) := by
  rw [Machine.arrBin, ror_fst_eq]
  rfl

theorem Regs.arrDec_eq (r : Regs) (m : Byte) : r.arrDec m = r.alu (Machine.arrDec (r.a &&& m) r.p.c) := by
  rw [Machine.arrDec, ror_fst_eq, arrFixHigh_eq, arrFixLow_and_lowMask]
  rfl

theorem Regs.arr_eq (r : Regs) (m : Byte) : r.arr m = r.alu (arrOut r.p (r.a &&& m)) := by
  rw [Regs.arr, arrOut, Regs.arrBin_eq, Regs.arrDec_eq, apply_ite r.alu]

theorem opArr_eq_withRegs (m : Byte) (u : State) : opArr m u = u.withRegs (u.regs.arr m) := by
  rw [Regs.arr_eq]
  rfl

/-! ### The immediate operations (R609 to R614) -/

theorem opAnc_eq_withRegs (m : Byte) (u : State) : opAnc m u = u.withRegs (u.regs.anc m) := rfl

theorem opAlr_eq_withRegs (m : Byte) (u : State) : opAlr m u = u.withRegs (u.regs.alr m) := rfl

theorem opAne_eq_withRegs (m : Byte) (u : State) : opAne m u = u.withRegs (u.regs.ane m) := rfl

theorem opLxa_eq_withRegs (m : Byte) (u : State) : opLxa m u = u.withRegs (u.regs.lxa m) := rfl

theorem opSbx_eq_withRegs (m : Byte) (u : State) : opSbx m u = u.withRegs (u.regs.sbx m) := rfl

/-- Settles O37: each is the immediate mode's rule with its operation's effect. -/
theorem undocumentedImmediatesComplete : Obligations.UndocumentedImmediatesComplete := fun _ _ =>
  ⟨readsImm_of_effect rfl rfl opAnc_eq_withRegs, readsImm_of_effect rfl rfl opAnc_eq_withRegs,
    readsImm_of_effect rfl rfl opAlr_eq_withRegs, readsImm_of_effect rfl rfl opArr_eq_withRegs,
    readsImm_of_effect rfl rfl opAne_eq_withRegs, readsImm_of_effect rfl rfl opLxa_eq_withRegs,
    readsImm_of_effect rfl rfl opSbx_eq_withRegs⟩

/-! ### The high-byte stores (R616 to R620, R372) -/

theorem opStored_eq_withRegs (u : State) : opStored u = u.withRegs u.regs := rfl

/-- TAS's register effect (R620). -/
def Regs.tas (r : Regs) : Regs := { r with sp := r.a &&& r.x }

theorem opTas_eq_withRegs (u : State) : opTas u = u.withRegs u.regs.tas := rfl

theorem highIzy_eq (s : State) (op zp : Byte) (reg : State → Byte) (effect : State → State) :
    highIzy op zp reg effect s = (s.headIzyFixed op zp).highStoreTail (s.izyBase op zp) s.y reg effect := by
  rw [highIzy, baseIzy_eq]

/-- The effect of a high-byte store that nothing disturbs (R616): it writes `r` AND the base's high byte plus one, which on a page
crossing is also the high byte of the address. -/
def State.highStore (s : State) (m : Access) (base : Word) (index r : Byte) (regs : Regs) : Effect :=
  let v := r &&& (hiByte base + 1)
  let hi := if (loByte base).toNat + index.toNat > 0xFF then v else hiByte (base + zext16 index)
  { code := m.code, bus := m.head ++ [wr (mkWord hi (loByte base + index)) v], regs := regs, pc := s.pcAfter m.code }

/-- The effect of a high-byte store that RDY or AEC disturbs (U14): the byte and the high byte of its address are open. -/
def State.openHighStore (s : State) (m : Access) (base : Word) (index : Byte) (regs : Regs) : Effect :=
  let k := s.cycleCounter + m.head.length
  { code := m.code
    bus := m.head ++ [wr (mkWord (Config.highStoreHigh k) (loByte base + index)) (Config.highStoreValue k)]
    regs := regs
    pc := s.pcAfter m.code }

section
variable {m : Access} {base : Word} {reg : State → Byte} {effect : State → State} {f : Regs → Regs}
  (he : ∀ u, effect u = u.withRegs (f u.regs)) (w : s.mem.wf = true)
include he w

section
variable {r : Byte} (hlow : (s.aecLow || s.rdyLow) = false) (hreg : ∀ u : State, u.regs = s.regs → reg u = r)
include hreg

/-- The write of a high-byte store that nothing disturbs (R616). -/
theorem highStores_of_closed (h : AtOperand s t m) (hopen : t.highStoreOpen = false) (henc : encode i = m.code)
    (hexec : exec i s = .next (t.highStoreTail base index reg effect)) :
    Completes i s (s.highStore m base index r (f s.regs)) := by
  have hc := highStores_of_head w h henc hexec he
  simpa [State.highStore, State.highStoreAddr, State.highStoreHigh, State.highStoreValue, hopen, hreg t h.regs, crosses,
    indexed] using hc

include hlow

theorem highStores_absIndexed_of_closed (henc : encode i = code3 op addr)
    (hexec : exec i s = .next ((s.headAbsFixed op addr index).highStoreTail addr index reg effect)) :
    Completes i s (s.highStore (s.viaAbsIndexed op addr index) addr index r (f s.regs)) :=
  highStores_of_closed he w hreg (atOperand_absFixed s op addr index) ((s.headAbsFixed_open op addr index).trans hlow) henc hexec

theorem highStores_izy_of_closed (henc : encode i = [op, zp]) (hexec : exec i s = .next (highIzy op zp reg effect s)) :
    Completes i s (s.highStore (s.viaIzy op zp) (s.izyBase op zp) s.y r (f s.regs)) :=
  highStores_of_closed he w hreg (atOperand_izyFixed s op zp) ((s.headIzyFixed_open op zp).trans hlow) henc
    (highIzy_eq s op zp reg effect ▸ hexec)

end

section
variable (hlow : (s.aecLow || s.rdyLow) = true)

/-- The write of a high-byte store that RDY or AEC disturbs (R616; U14). -/
theorem highStores_of_open (h : AtOperand s t m) (hopen : t.highStoreOpen = true) (henc : encode i = m.code)
    (hexec : exec i s = .next (t.highStoreTail base index reg effect)) :
    Completes i s (s.openHighStore m base index (f s.regs)) := by
  have hc := highStores_of_head w h henc hexec he
  simpa [State.openHighStore, State.highStoreAddr, State.highStoreHigh, State.highStoreValue, hopen, h.after.counter] using hc

include hlow

theorem highStores_absIndexed_of_open (henc : encode i = code3 op addr)
    (hexec : exec i s = .next ((s.headAbsFixed op addr index).highStoreTail addr index reg effect)) :
    Completes i s (s.openHighStore (s.viaAbsIndexed op addr index) addr index (f s.regs)) :=
  highStores_of_open he w (atOperand_absFixed s op addr index) ((s.headAbsFixed_open op addr index).trans hlow) henc hexec

theorem highStores_izy_of_open (henc : encode i = [op, zp]) (hexec : exec i s = .next (highIzy op zp reg effect s)) :
    Completes i s (s.openHighStore (s.viaIzy op zp) (s.izyBase op zp) s.y (f s.regs)) :=
  highStores_of_open he w (atOperand_izyFixed s op zp) ((s.headIzyFixed_open op zp).trans hlow) henc
    (highIzy_eq s op zp reg effect ▸ hexec)

end

end

/-- Settles O38: with RDY and AEC high nothing disturbs the store. -/
theorem highByteStoresComplete : Obligations.HighByteStoresComplete := by
  intro s zp8 addr16 w hrdy haec go
  have hlow : (s.aecLow || s.rdyLow) = false := by simp [State.aecLow, State.rdyLow, hrdy, haec]
  have hx (u : State) (h : u.regs = s.regs) : regShx u = s.x := congrArg Regs.x h
  have hy (u : State) (h : u.regs = s.regs) : regShy u = s.y := congrArg Regs.y h
  have hax (u : State) (h : u.regs = s.regs) : regSha u = s.a &&& s.x := congrArg₂ (· &&& ·) (congrArg Regs.a h) (hx u h)
  exact ⟨highStores_izy_of_closed (f := id) opStored_eq_withRegs w hlow hax rfl rfl,
    highStores_absIndexed_of_closed (f := id) opStored_eq_withRegs w hlow hax rfl rfl,
    highStores_absIndexed_of_closed (f := id) opStored_eq_withRegs w hlow hx rfl rfl,
    highStores_absIndexed_of_closed (f := id) opStored_eq_withRegs w hlow hy rfl rfl,
    highStores_absIndexed_of_closed (f := Regs.tas) opTas_eq_withRegs w hlow hax rfl rfl⟩

/-- Settles O39: a low RDY or AEC disturbs the store in every cycle. -/
theorem highByteStoresOpenUnderRdyOrAec : Obligations.HighByteStoresOpenUnderRdyOrAec := by
  intro s zp8 addr16 w hpin go
  have hlow : (s.aecLow || s.rdyLow) = true := by
    rcases hpin with h | h <;> simp [State.aecLow, State.rdyLow, h]
  exact ⟨highStores_izy_of_open (f := id) opStored_eq_withRegs w hlow rfl rfl,
    highStores_absIndexed_of_open (f := id) opStored_eq_withRegs w hlow rfl rfl,
    highStores_absIndexed_of_open (f := id) opStored_eq_withRegs w hlow rfl rfl,
    highStores_absIndexed_of_open (f := id) opStored_eq_withRegs w hlow rfl rfl,
    highStores_absIndexed_of_open (f := Regs.tas) opTas_eq_withRegs w hlow rfl rfl⟩

end Sys2Proof.Machine
end

section
/-! PROOFS. Exceptions (60_exceptions.md): no step ends in a fault or a refusal (R703, R156), RTI undoes an interrupt
(R707, R708), and a bus write checks its pins before it changes one (R702). -/

namespace Sys2Proof.Machine

variable {s t : State}

/-! ### Every step answers a next state (R703) -/

/-- A step is idle, one cycle, a whole sequence or one instruction, and every byte fetched is an instruction's opcode (R154). -/
theorem exists_step (s : State) : ∃ t, step s = .next t := by
  unfold step
  cases s.prelude with
  | idle u => exact ⟨_, rfl⟩
  | run u =>
    dsimp only
    cases u.upcoming with
    | instruction => exact ⟨_, State.runInstruction_eq u rfl rfl⟩
    | stall | irqSequence | resetSequence | cycle => exact ⟨_, rfl⟩

/-- Settles O9, by induction on the number of steps: each answers a next state, from which the rest run. -/
theorem noStateStopsTheMachine : Obligations.NoStateStopsTheMachine := by
  intro n
  induction n with
  | zero => exact fun _ => trivial
  | succ n ih =>
    intro s
    obtain ⟨t, ht⟩ := exists_step s
    exact ⟨t, ht, ih t⟩

/-! ### A return after an interrupt (R707, R708) -/

/-- A pulled status byte gives back the flags pushed, whatever its bit 4 was (R56). -/
theorem statusFlags_statusByte (f : Flags) (b : Bool) : statusFlags (statusByte f b) = f := by
  obtain ⟨n, v, d, i, z, c⟩ := f
  revert n v d i z c b
  decide

/-- Where the stack page is RAM, the three pushes of an entry leave the return address and the status byte in memory, wherever
SP stands (R106). -/
theorem After.read_entryPushes {bus : List Bus} {addrs : List Word} {sp : Byte} {ret : Word} {f : Flags} {b : Bool}
    (h : After s t (s.reads (bus ++ entryPushes sp ret f b) addrs)) (w : s.mem.wf = true) (haec : s.aecLow = false)
    (hram : ∀ k : Byte, s.regionAt (stackAddr k) = .ram) :
    t.mem.read (stackAddr sp).toNat = hiByte ret ∧
    t.mem.read (stackAddr (sp - 1)).toNat = loByte ret ∧
    t.mem.read (stackAddr (sp - 2)).toNat = statusByte f b := by
  simp [h.mem (.inl w), entryPushes, State.byteAfter_append, State.byteAfter, State.keeps, haec, hram, wr,
    toNat_stackAddr_inj]

/-- The step that takes a pending interrupt, as all its transactions and the registers it leaves (R373). -/
theorem after_step_irq (w : s.mem.wf = true) (hreset : s.resetLow = false) (hrdy : s.rdyLow = false)
    (hp : s.resetPending = false) (hj : s.jammed = false) (hs : s.micro.stage = .opcode) (hi : s.irqPending = true) :
    ∃ t, step s = .next t ∧ t.regs = { s.regs with sp := s.sp - 3, p := { s.p with i := true } } ∧
      After s.release t
        (s.release.reads (s.release.reads [] [s.pc, s.pc] ++ entryPushes s.sp s.pc s.p false) [0xFFFE, 0xFFFF]) :=
  ⟨_, (step_irq hreset hrdy hp hj hs hi).trans (congrArg _ (State.enterInterrupt_eq _ _)),
    (State.endTrap_regs _).trans (State.entry_regs _ _ _ _),
    ((after_irq (s := s.release) w).readVector (.inl w) _ _).thenSilent (.endTrap _)⟩

/-- With AEC high and RAM in the stack page, RTI pulls memory's bytes (R708, R103). -/
theorem rti_pulls (w : s.mem.wf = true) (haec : s.aecLow = false)
    (hram : ∀ b : Byte, s.regionAt (stackAddr b) = .ram) (h : exec .rti s = .next t) :
    t.regs = { s.regs with sp := s.sp + 3, p := statusFlags (s.mem.read (stackAddr (s.sp + 1)).toNat) } ∧
    t.pc = mkWord (s.mem.read (stackAddr (s.sp + 3)).toNat) (s.mem.read (stackAddr (s.sp + 2)).toNat) := by
  obtain ⟨-, t', ht, hregs, hpc, -⟩ := rti_completes w
  cases ht.symm.trans h
  have hseen (b : Byte) (addrs : List Word) :
      s.seen (s.reads [rd s.pc 0x40] addrs) (stackAddr b) = s.mem.read (stackAddr b).toNat :=
    State.seen_reads_of_ram haec (hram b) _ _ addrs
  have hstatus := hseen (s.sp + 1) [s.pc + 1, stackAddr s.sp]
  have hlo := hseen (s.sp + 2) [s.pc + 1, stackAddr s.sp, stackAddr (s.sp + 1)]
  have hhi := hseen (s.sp + 3) [s.pc + 1, stackAddr s.sp, stackAddr (s.sp + 1), stackAddr (s.sp + 2)]
  exact ⟨hstatus ▸ hregs, hpc.trans (congrArg₂ mkWord hhi hlo)⟩

/-- Settles O49: RTI pulls the three bytes that the interrupt sequence pushed, and the pushed status byte has I as before. -/
theorem interruptThenReturnResumes : Obligations.InterruptThenReturnResumes := by
  intro s t u w haec hram hreset hrdy hp hj hs hi hstep hrti
  have hlow : s.release.aecLow = false := by simp [State.release, State.aecLow, haec]
  obtain ⟨t', ht, htregs, hafter⟩ :=
    after_step_irq w (by simp [State.resetLow, hreset]) (by simp [State.rdyLow, hrdy]) hp hj hs hi
  cases ht.symm.trans hstep
  obtain ⟨huregs, hupc⟩ := rti_pulls (hafter.wf w) (hafter.outside.aecLow.trans hlow)
    (fun b => (hafter.outside.regionAt _).trans (hram b)) hrti
  obtain ⟨hhi, hlo, hstatus⟩ := hafter.read_entryPushes w hlow hram
  have hsp : t.sp = s.sp - 3 := congrArg Regs.sp htregs
  have hsp1 : t.sp + 1 = s.sp - 2 := by bv_omega
  have hsp2 : t.sp + 2 = s.sp - 1 := by bv_omega
  have hsp3 : t.sp + 3 = s.sp := by bv_omega
  constructor
  · rw [hupc, hsp2, hsp3, hhi, hlo, mkWord_hiByte_loByte]
  · rw [huregs, hsp1, hsp3, hstatus, statusFlags_statusByte, htregs]
    rfl

/-! ### The checks of a bus write (R223, R702) -/

section
variable {order : Nat → Nat} {who : Owner} {b : BusId} {ps : List PinId} {value : Nat}
  {setter : PinId → Level → NetM Bool} {heard : BusSink → List PinId → Nat → NetM Unit} (h : s.net.busPins b = some ps)
include h

theorem run_writeBusWith_mismatch (hd : s.net.sharedDirection ps = none) :
    (writeBusWith setter heard b value).run s = (raiseFault (.busDirectionMismatch b) : NetM Bool).run s := by
  simp [writeBusWith, run_bind_ok (run_busPinsOf h), hd]

theorem run_writeBusWith_input (hd : s.net.sharedDirection ps = some .input) :
    (writeBusWith setter heard b value).run s = (raiseFault (.invalidDirectionBus b) : NetM Bool).run s := by
  simp [writeBusWith, run_bind_ok (run_busPinsOf h), hd]

theorem run_writeBusWith_hiZ (hd : s.net.sharedDirection ps = some .hiZ) :
    (writeBusWith setter heard b value).run s = .ok false s := by
  simp [writeBusWith, run_bind_ok (run_busPinsOf h), hd]

/-- The owner's write of a bus, over the pin setter at full depth. -/
theorem exists_run_busWrite (ho : ∀ p ∈ ps, s.net.ownerOf p = some who) (hu : s.net.unsettled = false) :
    ∃ heard, (busWrite order who b value).run s =
      (writeBusWith (s.wiring order).setLevel heard b value).run s := by
  obtain ⟨heard, hwrite⟩ := exists_busSetter_eq (tick := pinStepWith) (s.wiring order).setLevel s.params.maxDepth
  exact ⟨heard, by rw [run_busWrite h ho hu, State.writeBus_wiring, hwrite]⟩

end

/-- Settles O53: the write reads the shared direction before it reaches its pin setter. -/
theorem busWriteChecksFirst : Obligations.BusWriteChecksFirst := by
  intro order who b ps value s h ho hu
  obtain ⟨heard, hwrite⟩ := exists_run_busWrite (order := order) (value := value) h ho hu
  rw [hwrite]
  exact ⟨fun hd => (run_writeBusWith_mismatch h hd).trans (run_raiseFault rfl),
    fun hd => (run_writeBusWith_input h hd).trans (run_raiseFault rfl), run_writeBusWith_hiZ h⟩

end Sys2Proof.Machine
end

section
/-! PROOFS. The reset sequence as its seven reads (R374, R751), and the word that `withFetchWord` places for the next fetch. -/

namespace Sys2Proof.Machine

variable {s t : State} {bus : List Bus}

/-! ### What a bus cycle looks at -/

/-- Two states that agree on all that determines the byte a bus cycle reads. -/
structure State.SameBus (s t : State) : Prop where
  aecLow : t.aecLow = s.aecLow
  map : t.map = s.map
  counter : t.cycleCounter = s.cycleCounter
  mem : t.mem = s.mem
  platform : t.platform = s.platform

theorem State.SameBus.regionAt (h : s.SameBus t) (addr : Word) : t.regionAt addr = s.regionAt addr :=
  congrArg (regionKind · addr.toNat) h.map

theorem State.SameBus.platformAfter (h : s.SameBus t) (bus : List Bus) : t.platformAfter bus = s.platformAfter bus := by
  simp only [State.platformAfter, h.aecLow, h.platform]

theorem State.SameBus.keeps (h : s.SameBus t) (addr : Word) : t.keeps addr = s.keeps addr := by
  simp only [State.keeps, h.aecLow, h.regionAt]

theorem State.SameBus.byteAfter (h : s.SameBus t) (a : Nat) (bus : List Bus) (v : Byte) :
    t.byteAfter a bus v = s.byteAfter a bus v := by
  induction bus generalizing v with
  | nil => rfl
  | cons b rest ih => simp only [State.byteAfter, h.keeps, ih]

theorem State.SameBus.seen (h : s.SameBus t) (bus : List Bus) (addr : Word) : t.seen bus addr = s.seen bus addr := by
  simp only [State.seen, h.aecLow, h.counter, h.regionAt, h.platformAfter, h.byteAfter, h.mem]

theorem State.SameBus.reads (h : s.SameBus t) (bus : List Bus) (addrs : List Word) :
    t.reads bus addrs = s.reads bus addrs := by
  induction addrs generalizing bus with
  | nil => rfl
  | cons addr rest ih => simp only [State.reads, h.seen, ih]

/-- The release of RESET and the start of the reset sequence are no bus cycles. -/
theorem State.sameBus_startReset (s : State) : s.SameBus s.release.startReset := ⟨rfl, rfl, rfl, rfl, rfl⟩

/-- Reads after reads are reads only. -/
theorem State.rw_of_mem_reads (s : State) (hr : ∀ b ∈ bus, b.2.1 = Rw.read) (addrs : List Word) :
    ∀ b ∈ s.reads bus addrs, b.2.1 = Rw.read := by
  induction addrs generalizing bus with
  | nil => exact hr
  | cons addr rest ih => exact ih (List.forall_mem_append.mpr ⟨hr, List.forall_mem_singleton.mpr rfl⟩)

theorem State.legible_reads (s : State) (addrs : List Word) : s.Legible (s.reads [] addrs) :=
  .inr (s.rw_of_mem_reads (List.forall_mem_nil _) addrs)

/-! ### The CPU's pins after reads (R260, R262) -/

/-- A read sets every pin that a read before it set. -/
theorem CpuPins.afterRead_afterRead (p : CpuPins) (a b : Word) (v w : Byte) :
    (p.afterRead a v).afterRead b w = p.afterRead b w := by
  unfold CpuPins.afterRead
  cases h : p.aec with
  | low => simp [CpuPins.released, h]
  | high => simp

theorem After.readVector_cpu (h : After s t bus) (hl : s.Legible bus) (lo hi : Word) :
    (t.readVector lo hi).net.cpu = t.net.cpu.afterRead hi (s.seen (s.reads bus [lo]) hi) := by
  rw [← (h.vectorLow hl lo).busRead (hl.reads _)]
  simp [State.readVector, CpuPins.afterRead_afterRead]

/-! ### The reset sequence (R374) -/

theorem After.suppressedPush (h : After s t bus) (hl : s.Legible bus) {sp : Byte} (hsp : t.sp = sp) :
    After s t.suppressedPush (s.reads bus [stackAddr sp]) := (h.topNext hl hsp).thenSilent (.decSp _)

/-- The cycles of the reset sequence before its vector reads. -/
def State.resetPushes (s : State) : State := s.dummyPc.dummyPc.suppressedPush.suppressedPush.suppressedPush

theorem State.resetSequence_eq (s : State) : s.resetSequence = (s.resetPushes.readVector 0xFFFC 0xFFFD).endTrap := rfl

/-- Two dummy reads at PC, then the three suppressed pushes. -/
theorem after_resetPushes (s : State) :
    After s s.resetPushes (s.reads [] [s.pc, s.pc, stackAddr s.sp, stackAddr (s.sp - 1), stackAddr (s.sp - 2)]) := by
  have hsp : s.sp - 1 - 1 = s.sp - 2 := by bv_omega
  have hdummy : After s s.dummyPc.dummyPc (s.reads [] [s.pc, s.pc]) :=
    ((After.refl s).dummyNext (s.legible_reads []) rfl).dummyNext (s.legible_reads [s.pc]) rfl
  have h1 := hdummy.suppressedPush (s.legible_reads _) (sp := s.sp) rfl
  have h2 := h1.suppressedPush ((s.legible_reads _).reads _) (sp := s.sp - 1) rfl
  exact h2.suppressedPush (((s.legible_reads _).reads _).reads _) hsp

/-- The registers of the reset sequence: SP three lower and I set. -/
theorem State.readVector_resetPushes_regs (s : State) (lo hi : Word) :
    (s.resetPushes.readVector lo hi).regs = { s.regs with sp := s.sp - 3, p := { s.p with i := true } } := by
  have hsp : s.sp - 1 - 1 - 1 = s.sp - 3 := by bv_omega
  simpa [State.readVector, State.resetPushes, State.suppressedPush, State.regs] using hsp

theorem State.readVector_resetPushes_lastOpcodeAddr (s : State) (lo hi : Word) :
    (s.resetPushes.readVector lo hi).lastOpcodeAddr = s.lastOpcodeAddr := by
  simp [State.readVector, State.resetPushes, State.suppressedPush]

/-- The reset sequence's last read sets every pin that its other reads set. -/
theorem State.resetPushes_cpu_afterRead (s : State) (addr : Word) (v : Byte) :
    s.resetPushes.net.cpu.afterRead addr v = s.net.cpu.afterRead addr v := by
  simp [State.resetPushes, State.suppressedPush, CpuPins.afterRead_afterRead]

/-- With RDY high a reset pending at a boundary is run (R300, R309). -/
theorem step_reset (hreset : s.resetLow = false) (hrdy : s.rdyLow = false) (hp : s.resetPending = true)
    (hs : s.micro.stage = .opcode) (hj : s.jammed = false) : step s = .next s.release.startReset.resetSequence := by
  have hup : s.release.startReset.upcoming = .resetSequence := by
    show (if s.rdyLow = true then Upcoming.stall else .resetSequence) = _
    simp [hrdy]
  have hrun : s.prelude = .run s.release.startReset := s.prelude_reset hreset hp hs hj
  simp only [step, hrun, hup]

/-- Settles O14: the step is seven reads, from the state that RESET no longer holds. -/
theorem resetSequenceEffects : Obligations.ResetSequenceEffects := by
  intro s hreset hrdy hp hs hj b5 b6 bus
  have hstep := step_reset (by simp [State.resetLow, hreset]) (by simp [State.rdyLow, hrdy]) hp hs hj
  rw [State.resetSequence_eq] at hstep
  have hbus := s.sameBus_startReset
  have hpush := after_resetPushes s.release.startReset
  have hl := s.release.startReset.legible_reads
    [s.pc, s.pc, stackAddr s.sp, stackAddr (s.sp - 1), stackAddr (s.sp - 2)]
  have hpc := hpush.readVector_pc hl 0xFFFC 0xFFFD
  have hcpu := (hpush.readVector_cpu hl 0xFFFC 0xFFFD).trans (State.resetPushes_cpu_afterRead _ _ _)
  have h := (hpush.readVector hl 0xFFFC 0xFFFD).thenSilent (.endTrap _)
  simp only [hbus.reads, hbus.seen] at hpc hcpu h
  exact ⟨_, hstep, (State.endTrap_pc _).trans hpc,
    (State.endTrap_regs _).trans (State.readVector_resetPushes_regs _ _ _), h.trace,
    h.platform.trans (hbus.platformAfter _), h.jammed.trans hj, State.loadVector_irqPending _ _ _, h.outside.resetPending,
    h.outside.resetHeld, State.endTrap_stage _, h.counter,
    (State.endTrap_lastOpcodeAddr _).trans (State.readVector_resetPushes_lastOpcodeAddr _ _ _), h.faultLog,
    h.quiet (s.rw_of_mem_reads (s.rw_of_mem_reads (List.forall_mem_nil _) _) _), h.outside.network,
    fun _ => (congrArg Net.cpu (State.endTrap_net _)).trans hcpu⟩

/-! ### A word placed for the next fetch -/

section
variable (s : State) (nbits w : Nat)

theorem State.withFetchWord_ready : (s.withFetchWord nbits w).Ready := ⟨rfl, rfl, rfl, rfl, rfl, rfl⟩

/-- The placed word's bytes stand in memory from PC on. -/
theorem State.withFetchWord_read (h : s.mem.wf = true) {k : Nat} (hk : k < 3) :
    (s.withFetchWord nbits w).mem.read (s.pc + BitVec.ofNat 16 k).toNat = byteOfNat (w % 2 ^ nbits) k := by
  have h1 := Memory.wf_write_word s.mem s.pc (byteOfNat (w % 2 ^ nbits) 0) h
  have h2 := Memory.wf_write_word _ (s.pc + 1) (byteOfNat (w % 2 ^ nbits) 1) h1
  simp only [State.withFetchWord, Memory.read_write _ _ _ _ h2, Memory.read_write _ _ _ _ h1, Memory.read_write _ _ _ _ h,
    BitVec.toNat_inj]
  interval_cases k <;> simp

theorem State.withFetchWord_fetchBytes (h : s.mem.wf = true) :
    (s.withFetchWord nbits w).fetchBytes = (List.range 3).map (byteOfNat (w % 2 ^ nbits)) :=
  (State.fetchBytes_of_answered rfl fun _ _ => RegionKind.noConfusion).trans
    (List.map_congr_left fun _ hk => s.withFetchWord_read nbits w h (List.mem_range.mp hk))

end

/-- A word decodes from its three bytes, the first byte lowest. -/
theorem exists_decode_of_decodeTableWord {nbits w : Nat} {i : Instr} (h : decodeTableWord nbits w = some i) :
    ∃ rest, decode ((List.range 3).map (byteOfNat (w % 2 ^ nbits))) = .ok (i, rest) := by
  unfold decodeTableWord at h
  dsimp only at h
  split at h
  · next j rest hd =>
    cases h
    exact ⟨rest, hd⟩
  · cases h

/-- Settles O7: the bytes fetched are those placed, from which the word decodes; RESET is not held there. -/
theorem fetchWordRuns : Obligations.FetchWordRuns := by
  intro s nbits w i hm hw
  obtain ⟨rest, hd⟩ := exists_decode_of_decodeTableWord hw
  rw [← s.withFetchWord_fetchBytes nbits w hm] at hd
  exact stepRunsTheDecodedInstruction _ _ _ (s.withFetchWord_ready nbits w) hd

end Sys2Proof.Machine
end
